-- ==== Sys2Proof/Word.lean ====
section
/-! DEFINITION. The word types of the card: what the manual holds as bits on the line or as wrapping counters. -/

namespace Sys2Proof

/-- One byte of a frame (R156). -/
abbrev Byte := BitVec 8

/-- A two-byte value: a cause set, an event set, a mask, a parameter of two bytes (R158). -/
abbrev Word := BitVec 16

/-- A 32-bit counter that wraps: track and feed counter, timebase, generation count (R1, R152). -/
abbrev Long := BitVec 32

/-- A set of the 16 causes, bit positions of Figure 10-5 (R20). -/
abbrev CauseSet := BitVec 16

/-- A set of the 16 event flags, bit positions of Figure 10-5 (R144). -/
abbrev EventSet := BitVec 16

/-- The index of a style set, 0 to 3 (R126). -/
abbrev StyleIndex := Fin 4

end Sys2Proof
end

