-- ==== Sys2Proof/Config.lean ====
section
/-! DEFINITION. The fixed constants of the card (spec/00_scope.md, "Fixed constants") and the free values
of what the manual leaves open; the free values over a bank's content stand in Machine/Records.lean. -/

namespace Sys2Proof.Config

/-- Segment length, 200 mm. -/
def segmentLength : Nat := 200
/-- Stretch window, 16 boundaries. -/
def stretchWindow : Nat := 16
/-- Track pulse periods held, 8 (R3). -/
def periodWindow : Nat := 8
/-- Fault ranges per beam, 48. -/
def maxRanges : Nat := 48
/-- Set plan entries, 12. -/
def maxPlan : Nat := 12
/-- Completed beam store, 4 records. -/
def maxStore : Nat := 4
/-- At-depth tolerance, 10 steps. -/
def depthTolerance : Nat := 10
/-- Steps beyond the travel after which a home fails (R94). -/
def homeMargin : Nat := 200
/-- Largest sequence number and largest wound length, 4,294,967,295 (R26, R106). -/
def maxLong : Nat := 4294967295
/-- Largest value of a 16-bit count that saturates (R21, R44, R72, R113). -/
def maxWord : Nat := 65535
/-- Command frame limit, 64 bytes (R136). -/
def frameLimit : Nat := 64
/-- The shortest frame, 7 bytes (Figure 10-1). -/
def shortestFrame : Nat := 7

/-- One millisecond, in the microseconds of the timebase. -/
def millisecond : Nat := 1000
/-- One second, in microseconds. -/
def second : Nat := 1000000
/-- Field reset period, 500 ms (R100). -/
def fieldResetPeriod : Nat := 500 * millisecond
/-- Pressure ramp interval, 100 ms (R84). -/
def rampInterval : Nat := 100 * millisecond
/-- Interval timer of the Condition Monitor, 100 ms (R66). -/
def standInterval : Nat := 100 * millisecond
/-- Moisture sampling interval, 50 ms (R78). -/
def sampleInterval : Nat := 50 * millisecond
/-- Inter-byte gap limit, 20 ms (R136). -/
def gapLimit : Nat := 20 * millisecond
/-- Start-up hold, 250 ms (R155). -/
def startUpHold : Nat := 250 * millisecond
/-- The latest end of a settings store, 800 ms after its grant (R153). -/
def storeLimit : Nat := 800 * millisecond

/-- FREE VALUE: the value from which the timebase runs after a start, which R15 leaves unstated.
It is applied to the count of free values drawn so far (log entry 4). -/
opaque timebaseAtStart : Nat → Long

/-- FREE VALUE: the loop current, in hundredths of a mA, that the card finds when its own 50 ms timer samples the
moisture loop (R78). It is applied to the count of free values drawn so far (log entry 4). -/
opaque loopCurrent : Nat → Nat

end Sys2Proof.Config
end

