-- ==== Sys2Proof/Syntax.lean ====
section
/-! DEFINITION. The commands of the card: one constructor of `Instr` per row of spec/opcode_table.json. -/

namespace Sys2Proof

/-- The four serial ports (spec/00_scope.md). -/
inductive Port where
  | p0 | p1 | p2 | p3
  deriving DecidableEq, Repr

/-- The two size boxes; box A serves lane A, box B serves lane B. -/
inductive Box where
  | a | b
  deriving DecidableEq, Repr

/-- The two marker jets (R108). -/
inductive Jet where
  | cut | fault
  deriving DecidableEq, Repr

/-- What every command frame carries beside its code and parameters (Figure 10-1), and the port it came on. -/
structure Hdr where
  /-- the port the frame was received on -/
  port : Port
  /-- the tag the master chose, echoed in the result -/
  tag : Byte
  /-- the HOLD flag, bit 7 of the flags byte -/
  hold : Bool
  /-- the guard code, bits 0 to 2 of the flags byte -/
  guard : BitVec 3
  deriving DecidableEq, Repr

/-- One curve point as WRITE STYLE carries it (Figure 10-8). -/
structure RawPoint where
  speed : Word
  pressure : Word
  deriving DecidableEq, Repr

/-- The parameters of WRITE STYLE (Figure 10-8), group by group. -/
inductive StyleWrite where
  /-- group 1 -/
  | yarn (endsA endsB tex : Word) (window : Byte)
  /-- group 2 for box A, group 3 for box B; the point count is the list's length -/
  | curve (box : Box) (points : List RawPoint)
  /-- group 4 -/
  | boxes (dipA dipB standA standB soak : Word)
  /-- group 5 -/
  | bands (addOnLow addOnHigh moistLow moistHigh stretch crawl : Word)
  /-- group 6 -/
  | drying (dwell slow merge : Word)
  /-- group 7 -/
  | masks (beam ink : Word)
  /-- a group byte outside 1 to 7, with whatever bytes follow it -/
  | other (group : Byte) (bytes : List Byte)
  deriving DecidableEq, Repr

/-- An optional zone of one of lanes A and B as WRITE MACHINE carries it: presence, first, last (Figure 10-9). -/
structure RawZone where
  presence : Byte
  first : Byte
  last : Byte
  deriving DecidableEq, Repr

/-- An optional main zone as WRITE MACHINE carries it: presence, first, last (Figure 10-9). -/
structure RawMainZone where
  presence : Byte
  first : Word
  last : Word
  deriving DecidableEq, Repr

/-- The geometry group as WRITE MACHINE carries it (Figure 10-9, code 0). -/
structure RawGeometry where
  depthA : Byte
  depthB : Byte
  depthMain : Word
  predryA : RawZone
  predryB : RawZone
  main1 : RawMainZone
  main2 : RawMainZone
  main3 : RawMainZone
  main4 : RawMainZone
  gauge : Word
  marker : Word
  fine : Byte
  immersionA : Word
  immersionB : Word
  deriving DecidableEq, Repr

/-- The parameters of WRITE MACHINE (Figure 10-9), group by group. -/
inductive MachineWrite where
  /-- group 0 -/
  | geometry (g : RawGeometry)
  /-- group 1 -/
  | measurement (track feed liquorA liquorB standstill : Word) (hysteresis : Byte) (span age : Word)
  /-- group 2 -/
  | actuators (travel rate limit : Word) (ramp : Byte) (lift : Word) (dip jet : Byte)
  /-- group 3 -/
  | beam (stopLead overrun : Word)
  /-- group 4 -/
  | ports (lockGap : Word)
  /-- a group byte outside 0 to 4, with whatever bytes follow it -/
  | other (group : Byte) (bytes : List Byte)
  deriving DecidableEq, Repr

/-- The commands of the card. The first part of the list are events of the field side, of the card's timers, of the
ports' receive and transmit stages and of the start logic; the commands that carry an `Hdr` are those a master
sends, each standing for its grant and its whole execution by the Command Engine (R140, R141). -/
inductive Instr where
  | trackPulse
  | feedPulse
  | liquorPulse (box : Box)
  /-- HOME SWITCH of the box takes the level: true is "becoming active", false its return -/
  | homeSwitchActive (box : Box) (level : Bool)
  /-- a sample of the moisture loop, in hundredths of a mA -/
  | gaugeSample (current : Nat)
  | standstillTimeout
  | intervalTimerExpiry
  | rampTimerExpiry
  | ageTimerExpiry (box : Box)
  | autoLiftExpiry
  | fieldResetExpiry
  | rollStep (box : Box)
  | jetTimerExpiry (jet : Jet)
  | lockGapExpiry
  | gapLimitExpiry (port : Port)
  | frameComplete (port : Port)
  | frameInError (port : Port)
  | frameOverlap (port : Port)
  | lineBreak (port : Port)
  | replySent (port : Port)
  | storeEnd
  | retentionMarkWrite
  /-- power-good and RACK RESET released; the operand says whether RETAIN SUPPLY is good -/
  | cardStart (retainSupply : Bool)
  | startUpHoldEnd
  | readStatus (h : Hdr)
  | readSegment (h : Hdr) (lane : Byte) (position : Word)
  | find (h : Hdr) (lane : Byte) (start : Word) (field mode : Byte) (value : Long)
  | selectStyle (h : Hdr) (index : Byte)
  | readStyle (h : Hdr) (group : Byte)
  | readMachine (h : Hdr) (group : Byte)
  | exchangeEvents (h : Hdr) (clear : Word)
  | setAttentionMask (h : Hdr) (mask : Word) (keep : Byte)
  | snap (h : Hdr) (source age : Byte)
  | readSnap (h : Hdr) (part start : Byte)
  | doff (h : Hdr)
  | closeSet (h : Hdr)
  | setTarget (h : Hdr) (metres : Word)
  | clearPath (h : Hdr)
  | moveRoll (h : Hdr) (box mode : Byte) (value : Word)
  | homeRoll (h : Hdr) (box : Byte)
  | collect (h : Hdr) (box : Byte)
  | resetField (h : Hdr)
  | reportBox (h : Hdr) (box : Byte) (concentration density : Word)
  | zoneHeat (h : Hdr) (zone setting : Byte)
  | writeStyle (h : Hdr) (fields : StyleWrite)
  | activateStyle (h : Hdr) (index : Byte)
  | writeMachine (h : Hdr) (fields : MachineWrite)
  | writeRoles (h : Hdr) (r0 r1 r2 r3 : Byte)
  | storeSettings (h : Hdr)
  | planAppend (h : Hdr) (number target cut : Word)
  | planClear (h : Hdr)
  | releaseBeam (h : Hdr) (age : Byte)
  /-- a granted frame that Figure 10-3 does not list: its code, its flag bits 3 to 6 and its parameter bytes -/
  | unknownCommandCode (h : Hdr) (code : Byte) (reserved : BitVec 4) (params : List Byte)
  /-- a character received on a port's receive pair, with its parity and framing errors -/
  | characterReceived (port : Port) (char : Byte) (parityError framingError : Bool)
  | markConditionReturn (port : Port)
  deriving DecidableEq, Repr

/-- The commands a master can send, by name (Figure 10-3). -/
inductive CmdKind where
  | readStatus | readSegment | find | selectStyle | readStyle | readMachine | exchangeEvents | setAttentionMask
  | snap | readSnap | doff | closeSet | setTarget | clearPath | moveRoll | homeRoll | collect | resetField
  | reportBox | zoneHeat | writeStyle | activateStyle | writeMachine | writeRoles | storeSettings
  | planAppend | planClear | releaseBeam
  deriving DecidableEq, Repr

end Sys2Proof
end

