-- ==== Sys2Proof/Decode.lean ====
section
/-! DEFINITION. The frames of chapter 10: byte order, check word, the command codes and parameter bytes of
Figure 10-3, the decoding of a clean frame at its grant (R157), the encoder beside it, and `decodeTableWord`.
The card has no instruction memory: what is decoded here is a command frame. -/

namespace Sys2Proof

/-! ### Byte order (R156: most significant byte first) -/

/-- The two bytes of a word, most significant first (R156). -/
def be16 (w : Word) : List Byte := [w.extractLsb' 8 8, w.extractLsb' 0 8]

/-- The four bytes of a 32-bit value, most significant first (R156). -/
def be32 (w : Long) : List Byte :=
  [w.extractLsb' 24 8, w.extractLsb' 16 8, w.extractLsb' 8 8, w.extractLsb' 0 8]

/-- The word two bytes spell, most significant first (R156). -/
def word16 (hi lo : Byte) : Word := hi ++ lo

/-- The 32-bit value four bytes spell, most significant first (R156). -/
def word32 (b3 b2 b1 b0 : Byte) : Long := b3 ++ b2 ++ b1 ++ b0

/-! ### The check word (R156) -/

/-- One bit of the cyclic check with generator x^16 + x^12 + x^5 + 1. -/
def crcBit (c : Word) : Word := if c.msb then (c <<< 1) ^^^ 0x1021#16 else c <<< 1

/-- One byte of the cyclic check, most significant bit first. -/
def crcByte (c : Word) (b : Byte) : Word :=
  crcBit (crcBit (crcBit (crcBit (crcBit (crcBit (crcBit (crcBit (c ^^^ (b ++ 0#8)))))))))

/-- The check word over a run of bytes, starting value 0xFFFF, sent without inversion (R156). -/
def checkWord (bytes : List Byte) : Word := bytes.foldl crcByte 0xFFFF#16

/-- A frame with its check word appended, high byte first (R156). -/
def sealFrame (body : List Byte) : List Byte := body ++ be16 (checkWord body)

/-- Whether the last two bytes of a frame are the check word over the bytes before them. -/
def checkWordMatches (frame : List Byte) : Bool :=
  frame.drop (frame.length - 2) == be16 (checkWord (frame.take (frame.length - 2)))

/-! ### Figure 10-3: codes -/

/-- The command code of Figure 10-3. -/
def CmdKind.code : CmdKind → Byte
  | .readStatus => 0x01
  | .readSegment => 0x02
  | .find => 0x03
  | .selectStyle => 0x04
  | .readStyle => 0x05
  | .readMachine => 0x06
  | .exchangeEvents => 0x07
  | .setAttentionMask => 0x08
  | .snap => 0x09
  | .readSnap => 0x0A
  | .doff => 0x10
  | .closeSet => 0x11
  | .setTarget => 0x12
  | .clearPath => 0x13
  | .moveRoll => 0x14
  | .homeRoll => 0x15
  | .collect => 0x16
  | .resetField => 0x17
  | .reportBox => 0x20
  | .zoneHeat => 0x21
  | .writeStyle => 0x30
  | .activateStyle => 0x31
  | .writeMachine => 0x32
  | .writeRoles => 0x33
  | .storeSettings => 0x34
  | .planAppend => 0x40
  | .planClear => 0x41
  | .releaseBeam => 0x42

/-- Every command kind, in the order of Figure 10-3. -/
def CmdKind.all : List CmdKind :=
  [.readStatus, .readSegment, .find, .selectStyle, .readStyle, .readMachine, .exchangeEvents, .setAttentionMask,
   .snap, .readSnap, .doff, .closeSet, .setTarget, .clearPath, .moveRoll, .homeRoll, .collect, .resetField,
   .reportBox, .zoneHeat, .writeStyle, .activateStyle, .writeMachine, .writeRoles, .storeSettings,
   .planAppend, .planClear, .releaseBeam]

/-- The command a code names, none for a code Figure 10-3 does not list. -/
def CmdKind.ofCode (c : Byte) : Option CmdKind := CmdKind.all.find? fun k => k.code == c

/-! ### Parameters -/

/-- The points of a curve group, four bytes each (Figure 10-8). -/
def decodePoints : List Byte → Option (List RawPoint)
  | [] => some []
  | s1 :: s0 :: p1 :: p0 :: rest => (decodePoints rest).map (⟨word16 s1 s0, word16 p1 p0⟩ :: ·)
  | _ => none

/-- A curve group's fields: a point count and that many points; any other number of bytes is malformed (R129, R157). -/
def decodeCurve (box : Box) : List Byte → Option StyleWrite
  | n :: rest => (decodePoints rest).bind fun ps => if ps.length = n.toNat then some (.curve box ps) else none
  | [] => none

/-- The parameters of WRITE STYLE (Figure 10-8). A group byte outside 1 to 7 fixes no length: the owning unit refuses
it RANGE (R129), whatever follows (log entry 8). -/
def decodeStyleWrite : List Byte → Option StyleWrite
  | [] => none
  | g :: rest =>
    if g = 1 then
      match rest with
      | [a1, a0, b1, b0, t1, t0, w] => some (.yarn (word16 a1 a0) (word16 b1 b0) (word16 t1 t0) w)
      | _ => none
    else if g = 2 then decodeCurve .a rest
    else if g = 3 then decodeCurve .b rest
    else if g = 4 then
      match rest with
      | [a1, a0, b1, b0, c1, c0, d1, d0, e1, e0] =>
        some (.boxes (word16 a1 a0) (word16 b1 b0) (word16 c1 c0) (word16 d1 d0) (word16 e1 e0))
      | _ => none
    else if g = 5 then
      match rest with
      | [a1, a0, b1, b0, c1, c0, d1, d0, e1, e0, f1, f0] =>
        some (.bands (word16 a1 a0) (word16 b1 b0) (word16 c1 c0) (word16 d1 d0) (word16 e1 e0) (word16 f1 f0))
      | _ => none
    else if g = 6 then
      match rest with
      | [a1, a0, b1, b0, c1, c0] => some (.drying (word16 a1 a0) (word16 b1 b0) (word16 c1 c0))
      | _ => none
    else if g = 7 then
      match rest with
      | [a1, a0, b1, b0] => some (.masks (word16 a1 a0) (word16 b1 b0))
      | _ => none
    else some (.other g rest)

/-- The 39 bytes of the geometry group (Figure 10-9, code 0). -/
def decodeGeometry : List Byte → Option RawGeometry
  | dA :: dB :: dM1 :: dM0 :: aP :: aF :: aL :: bP :: bF :: bL ::
    m1P :: m1F1 :: m1F0 :: m1L1 :: m1L0 :: m2P :: m2F1 :: m2F0 :: m2L1 :: m2L0 ::
    m3P :: m3F1 :: m3F0 :: m3L1 :: m3L0 :: m4P :: m4F1 :: m4F0 :: m4L1 :: m4L0 ::
    g1 :: g0 :: k1 :: k0 :: fine :: iA1 :: iA0 :: iB1 :: iB0 :: [] =>
    some {
      depthA := dA, depthB := dB, depthMain := word16 dM1 dM0
      predryA := ⟨aP, aF, aL⟩, predryB := ⟨bP, bF, bL⟩
      main1 := ⟨m1P, word16 m1F1 m1F0, word16 m1L1 m1L0⟩
      main2 := ⟨m2P, word16 m2F1 m2F0, word16 m2L1 m2L0⟩
      main3 := ⟨m3P, word16 m3F1 m3F0, word16 m3L1 m3L0⟩
      main4 := ⟨m4P, word16 m4F1 m4F0, word16 m4L1 m4L0⟩
      gauge := word16 g1 g0, marker := word16 k1 k0, fine := fine
      immersionA := word16 iA1 iA0, immersionB := word16 iB1 iB0 }
  | _ => none

/-- The parameters of WRITE MACHINE (Figure 10-9). A group byte outside 0 to 4 fixes no length (log entry 8). -/
def decodeMachineWrite : List Byte → Option MachineWrite
  | [] => none
  | g :: rest =>
    if g = 0 then (decodeGeometry rest).map .geometry
    else if g = 1 then
      match rest with
      | [t1, t0, f1, f0, a1, a0, b1, b0, s1, s0, hy, p1, p0, c1, c0] =>
        some (.measurement (word16 t1 t0) (word16 f1 f0) (word16 a1 a0) (word16 b1 b0) (word16 s1 s0) hy
          (word16 p1 p0) (word16 c1 c0))
      | _ => none
    else if g = 2 then
      match rest with
      | [t1, t0, r1, r0, l1, l0, ramp, a1, a0, dip, jet] =>
        some (.actuators (word16 t1 t0) (word16 r1 r0) (word16 l1 l0) ramp (word16 a1 a0) dip jet)
      | _ => none
    else if g = 3 then
      match rest with
      | [s1, s0, o1, o0] => some (.beam (word16 s1 s0) (word16 o1 o0))
      | _ => none
    else if g = 4 then
      match rest with
      | [l1, l0] => some (.ports (word16 l1 l0))
      | _ => none
    else some (.other g rest)

/-- The command a listed code and its parameter bytes spell, none where their number does not suit (R157). -/
def decodeParams (h : Hdr) (k : CmdKind) (ps : List Byte) : Option Instr :=
  match k with
  | .readStatus => if ps = [] then some (.readStatus h) else none
  | .readSegment => match ps with
    | [l, p1, p0] => some (.readSegment h l (word16 p1 p0))
    | _ => none
  | .find => match ps with
    | [l, s1, s0, f, m, v3, v2, v1, v0] => some (.find h l (word16 s1 s0) f m (word32 v3 v2 v1 v0))
    | _ => none
  | .selectStyle => match ps with
    | [i] => some (.selectStyle h i)
    | _ => none
  | .readStyle => match ps with
    | [g] => some (.readStyle h g)
    | _ => none
  | .readMachine => match ps with
    | [g] => some (.readMachine h g)
    | _ => none
  | .exchangeEvents => match ps with
    | [m1, m0] => some (.exchangeEvents h (word16 m1 m0))
    | _ => none
  | .setAttentionMask => match ps with
    | [m1, m0, k] => some (.setAttentionMask h (word16 m1 m0) k)
    | _ => none
  | .snap => match ps with
    | [s, a] => some (.snap h s a)
    | _ => none
  | .readSnap => match ps with
    | [p, i] => some (.readSnap h p i)
    | _ => none
  | .doff => if ps = [] then some (.doff h) else none
  | .closeSet => if ps = [] then some (.closeSet h) else none
  | .setTarget => match ps with
    | [m1, m0] => some (.setTarget h (word16 m1 m0))
    | _ => none
  | .clearPath => if ps = [] then some (.clearPath h) else none
  | .moveRoll => match ps with
    | [b, m, v1, v0] => some (.moveRoll h b m (word16 v1 v0))
    | _ => none
  | .homeRoll => match ps with
    | [b] => some (.homeRoll h b)
    | _ => none
  | .collect => match ps with
    | [b] => some (.collect h b)
    | _ => none
  | .resetField => if ps = [] then some (.resetField h) else none
  | .reportBox => match ps with
    | [b, c1, c0, d1, d0] => some (.reportBox h b (word16 c1 c0) (word16 d1 d0))
    | _ => none
  | .zoneHeat => match ps with
    | [z, s] => some (.zoneHeat h z s)
    | _ => none
  | .writeStyle => (decodeStyleWrite ps).map (.writeStyle h)
  | .activateStyle => match ps with
    | [i] => some (.activateStyle h i)
    | _ => none
  | .writeMachine => (decodeMachineWrite ps).map (.writeMachine h)
  | .writeRoles => match ps with
    | [r0, r1, r2, r3] => some (.writeRoles h r0 r1 r2 r3)
    | _ => none
  | .storeSettings => if ps = [] then some (.storeSettings h) else none
  | .planAppend => match ps with
    | [n1, n0, t1, t0, c1, c0] => some (.planAppend h (word16 n1 n0) (word16 t1 t0) (word16 c1 c0))
    | _ => none
  | .planClear => if ps = [] then some (.planClear h) else none
  | .releaseBeam => match ps with
    | [a] => some (.releaseBeam h a)
    | _ => none

/-- The command a code, the reserved flag bits and the parameter bytes spell, none where R157 refuses INVALID. -/
def decodeCommand (h : Hdr) (code : Byte) (reserved : BitVec 4) (ps : List Byte) : Option Instr :=
  if reserved = 0 then (CmdKind.ofCode code).bind fun k => decodeParams h k ps else none

/-- The flags byte: HOLD at bit 7, bits 3 to 6, the guard code at bits 0 to 2 (Figure 10-1). -/
def flagsByte (hold : Bool) (reserved : BitVec 4) (guard : BitVec 3) : Byte :=
  (BitVec.ofBool hold ++ reserved ++ guard : BitVec (1 + 4 + 3))

/-- The command a clean frame of port `p` carries, decoded at its grant (R157). The check word is not looked at
again. A frame refused INVALID is the row UNKNOWN_COMMAND_CODE. -/
def decodeFrame (p : Port) (frame : List Byte) : Instr :=
  match frame with
  | _lead :: _length :: tag :: code :: flags :: rest =>
    let h : Hdr := ⟨p, tag, flags.getLsbD 7, flags.extractLsb' 0 3⟩
    let reserved := flags.extractLsb' 3 4
    let ps := rest.take (rest.length - 2)
    (decodeCommand h code reserved ps).getD (.unknownCommandCode h code reserved ps)
  | _ => .unknownCommandCode ⟨p, 0, false, 0⟩ 0 0 []

/-! ### The encoder -/

/-- The bytes of curve points (Figure 10-8). -/
def encodePoints : List RawPoint → List Byte
  | [] => []
  | p :: ps => be16 p.speed ++ be16 p.pressure ++ encodePoints ps

/-- The parameter bytes of WRITE STYLE (Figure 10-8). -/
def encodeStyleWrite : StyleWrite → List Byte
  | .yarn a b t w => 1 :: (be16 a ++ be16 b ++ be16 t ++ [w])
  | .curve .a ps => 2 :: BitVec.ofNat 8 ps.length :: encodePoints ps
  | .curve .b ps => 3 :: BitVec.ofNat 8 ps.length :: encodePoints ps
  | .boxes a b c d e => 4 :: (be16 a ++ be16 b ++ be16 c ++ be16 d ++ be16 e)
  | .bands a b c d e f => 5 :: (be16 a ++ be16 b ++ be16 c ++ be16 d ++ be16 e ++ be16 f)
  | .drying a b c => 6 :: (be16 a ++ be16 b ++ be16 c)
  | .masks a b => 7 :: (be16 a ++ be16 b)
  | .other g bytes => g :: bytes

/-- The bytes of an optional zone of lane A or B. -/
def RawZone.bytes (z : RawZone) : List Byte := [z.presence, z.first, z.last]

/-- The bytes of an optional main zone. -/
def RawMainZone.bytes (z : RawMainZone) : List Byte := z.presence :: (be16 z.first ++ be16 z.last)

/-- The 39 bytes of the geometry group (Figure 10-9). -/
def RawGeometry.bytes (g : RawGeometry) : List Byte :=
  [g.depthA, g.depthB] ++ be16 g.depthMain ++ g.predryA.bytes ++ g.predryB.bytes
    ++ g.main1.bytes ++ g.main2.bytes ++ g.main3.bytes ++ g.main4.bytes
    ++ be16 g.gauge ++ be16 g.marker ++ [g.fine] ++ be16 g.immersionA ++ be16 g.immersionB

/-- The parameter bytes of WRITE MACHINE (Figure 10-9). -/
def encodeMachineWrite : MachineWrite → List Byte
  | .geometry g => 0 :: g.bytes
  | .measurement t f a b s hy sp c =>
    1 :: (be16 t ++ be16 f ++ be16 a ++ be16 b ++ be16 s ++ [hy] ++ be16 sp ++ be16 c)
  | .actuators t r l ramp a dip jet => 2 :: (be16 t ++ be16 r ++ be16 l ++ [ramp] ++ be16 a ++ [dip, jet])
  | .beam s o => 3 :: (be16 s ++ be16 o)
  | .ports l => 4 :: be16 l
  | .other g bytes => g :: bytes

/-- What a command frame carries: header, code, reserved flag bits and parameter bytes. -/
structure FrameParts where
  hdr : Hdr
  code : Byte
  reserved : BitVec 4
  params : List Byte
  deriving DecidableEq, Repr

/-- The parts of the frame of a listed command. -/
def FrameParts.listed (h : Hdr) (k : CmdKind) (params : List Byte) : FrameParts := ⟨h, k.code, 0, params⟩

/-- The parts of the frame a master sends for a command; none for an event, which comes in no frame. -/
def Instr.parts : Instr → Option FrameParts
  | .readStatus h => some (.listed h .readStatus [])
  | .readSegment h l p => some (.listed h .readSegment (l :: be16 p))
  | .find h l s f m v => some (.listed h .find (l :: (be16 s ++ [f, m] ++ be32 v)))
  | .selectStyle h i => some (.listed h .selectStyle [i])
  | .readStyle h g => some (.listed h .readStyle [g])
  | .readMachine h g => some (.listed h .readMachine [g])
  | .exchangeEvents h m => some (.listed h .exchangeEvents (be16 m))
  | .setAttentionMask h m k => some (.listed h .setAttentionMask (be16 m ++ [k]))
  | .snap h s a => some (.listed h .snap [s, a])
  | .readSnap h p i => some (.listed h .readSnap [p, i])
  | .doff h => some (.listed h .doff [])
  | .closeSet h => some (.listed h .closeSet [])
  | .setTarget h m => some (.listed h .setTarget (be16 m))
  | .clearPath h => some (.listed h .clearPath [])
  | .moveRoll h b m v => some (.listed h .moveRoll ([b, m] ++ be16 v))
  | .homeRoll h b => some (.listed h .homeRoll [b])
  | .collect h b => some (.listed h .collect [b])
  | .resetField h => some (.listed h .resetField [])
  | .reportBox h b c d => some (.listed h .reportBox (b :: (be16 c ++ be16 d)))
  | .zoneHeat h z s => some (.listed h .zoneHeat [z, s])
  | .writeStyle h w => some (.listed h .writeStyle (encodeStyleWrite w))
  | .activateStyle h i => some (.listed h .activateStyle [i])
  | .writeMachine h w => some (.listed h .writeMachine (encodeMachineWrite w))
  | .writeRoles h r0 r1 r2 r3 => some (.listed h .writeRoles [r0, r1, r2, r3])
  | .storeSettings h => some (.listed h .storeSettings [])
  | .planAppend h n t c => some (.listed h .planAppend (be16 n ++ be16 t ++ be16 c))
  | .planClear h => some (.listed h .planClear [])
  | .releaseBeam h a => some (.listed h .releaseBeam [a])
  | .unknownCommandCode h code r ps => some ⟨h, code, r, ps⟩
  | .trackPulse | .feedPulse | .liquorPulse _ | .homeSwitchActive _ _ | .gaugeSample _ | .standstillTimeout
  | .intervalTimerExpiry | .rampTimerExpiry | .ageTimerExpiry _ | .autoLiftExpiry | .fieldResetExpiry
  | .rollStep _ | .jetTimerExpiry _ | .lockGapExpiry | .gapLimitExpiry _ | .frameComplete _ | .frameInError _
  | .frameOverlap _ | .lineBreak _ | .replySent _ | .storeEnd | .retentionMarkWrite | .cardStart _
  | .startUpHoldEnd | .characterReceived _ _ _ _ | .markConditionReturn _ => none

/-- The command frame of Figure 10-1 that carries the parts. -/
def FrameParts.frame (f : FrameParts) : List Byte :=
  sealFrame ([0xB4#8, BitVec.ofNat 8 (f.params.length + 7), f.hdr.tag, f.code,
    flagsByte f.hdr.hold f.reserved f.hdr.guard] ++ f.params)

/-- The frame of a master's command, and no bytes for an event. -/
def Instr.frame (i : Instr) : List Byte := (i.parts.map FrameParts.frame).getD []

/-- The command that a word spells by the table's bits. spec/opcode_table.json gives no row of this block any bits,
so no word spells a command. -/
def decodeTableWord (_nbits _w : Nat) : Option Instr := none

end Sys2Proof
end

