-- ==== Sys2Proof/Machine/Records.lean ====
section
/-! DEFINITION. The plain data the card holds: the settings tables, the records of the sheet, the beam record, the
channels and the ports' stages. Field meanings and ranges are those of the tables of chapters 1 to 10. -/

namespace Sys2Proof.Machine

/-! ### Families of like things -/

/-- One value for each size box. -/
structure PerBox (α : Type) where
  a : α
  b : α
  deriving DecidableEq, Repr, Inhabited

/-- One value for each port. -/
structure PerPort (α : Type) where
  p0 : α
  p1 : α
  p2 : α
  p3 : α
  deriving DecidableEq, Repr, Inhabited

/-- The six drying zones, by the codes of Figure 10-7. -/
inductive Zone where
  | predryA | predryB | main1 | main2 | main3 | main4
  deriving DecidableEq, Repr

/-- One value for each drying zone. -/
structure PerZone (α : Type) where
  predryA : α
  predryB : α
  main1 : α
  main2 : α
  main3 : α
  main4 : α
  deriving DecidableEq, Repr, Inhabited

/-- One value for each style set. -/
structure PerStyle (α : Type) where
  s0 : α
  s1 : α
  s2 : α
  s3 : α
  deriving DecidableEq, Repr, Inhabited

namespace PerBox
variable {α : Type}
/-- The value of a box. -/
def get (x : PerBox α) : Box → α
  | .a => x.a
  | .b => x.b
/-- The family with one box's value replaced. -/
def set (x : PerBox α) (i : Box) (v : α) : PerBox α :=
  match i with
  | .a => { x with a := v }
  | .b => { x with b := v }
end PerBox

namespace PerPort
variable {α : Type}
/-- The value of a port. -/
def get (x : PerPort α) : Port → α
  | .p0 => x.p0
  | .p1 => x.p1
  | .p2 => x.p2
  | .p3 => x.p3
/-- The family with one port's value replaced. -/
def set (x : PerPort α) (i : Port) (v : α) : PerPort α :=
  match i with
  | .p0 => { x with p0 := v }
  | .p1 => { x with p1 := v }
  | .p2 => { x with p2 := v }
  | .p3 => { x with p3 := v }
/-- The family with a function applied to every port's value. -/
def map {β : Type} (f : α → β) (x : PerPort α) : PerPort β := ⟨f x.p0, f x.p1, f x.p2, f x.p3⟩
end PerPort

namespace PerZone
variable {α : Type}
/-- The value of a zone. -/
def get (x : PerZone α) : Zone → α
  | .predryA => x.predryA
  | .predryB => x.predryB
  | .main1 => x.main1
  | .main2 => x.main2
  | .main3 => x.main3
  | .main4 => x.main4
/-- The family with one zone's value replaced. -/
def set (x : PerZone α) (i : Zone) (v : α) : PerZone α :=
  match i with
  | .predryA => { x with predryA := v }
  | .predryB => { x with predryB := v }
  | .main1 => { x with main1 := v }
  | .main2 => { x with main2 := v }
  | .main3 => { x with main3 := v }
  | .main4 => { x with main4 := v }
/-- The family with a function of the zone applied to every zone's value. -/
def mapWith {β : Type} (f : Zone → α → β) (x : PerZone α) : PerZone β :=
  ⟨f .predryA x.predryA, f .predryB x.predryB, f .main1 x.main1, f .main2 x.main2, f .main3 x.main3,
   f .main4 x.main4⟩
end PerZone

namespace PerStyle
variable {α : Type}
/-- The value of a style index. -/
def get (x : PerStyle α) (i : StyleIndex) : α :=
  match i with
  | 0 => x.s0
  | 1 => x.s1
  | 2 => x.s2
  | 3 => x.s3
/-- The family with one set's value replaced. -/
def set (x : PerStyle α) (i : StyleIndex) (v : α) : PerStyle α :=
  match i with
  | 0 => { x with s0 := v }
  | 1 => { x with s1 := v }
  | 2 => { x with s2 := v }
  | 3 => { x with s3 := v }
end PerStyle

/-- A running timer: the time since it was started and the limit read at its start, in microseconds. -/
structure Timer where
  elapsed : Nat
  limit : Nat
  deriving DecidableEq, Repr

/-! ### Names (Figures 10-4, 10-5 and 10-7) -/

/-- The 16 causes (R20, Figure 10-5). -/
inductive Cause where
  | crawl | soak | lift | depthUnknown | concStale | concUnknown | windowShort | addOnLow | addOnHigh | stretchHigh
  | overdry | powerstop | moistLow | moistHigh | untrackedPart | untracked
  deriving DecidableEq, Repr

/-- The 16 event flags (R144, Figure 10-5). -/
inductive Flag where
  | beamClosed | planLow | slowPoint | stopPoint | overrun | faultRange | rollADone | rollBDone | rollUnref
  | overdry | soak | inputFault | storeDone | lockBroken | overlap | restart
  deriving DecidableEq, Repr

/-- The status codes of a result frame (Figure 10-4). -/
inductive Status where
  | ok | clamped | started | late | none | skipped | range | busy | notStopped | invalid | notPermitted
  | unreferenced | pending | emptyBeam | planEmpty | full | activeStyle | noBoxB | beamOpen | linkError
  deriving DecidableEq, Repr

/-- LINE STATE (section 1.4). -/
inductive LineState where
  | stopped | crawl | run
  deriving DecidableEq, Repr

/-- The state of a box's report register (section 3.3). -/
inductive ConcState where
  | unknown | fresh | stale
  deriving DecidableEq, Repr

/-- The gauge state (R79). -/
inductive GaugeState where
  | none | valid | fault
  deriving DecidableEq, Repr

/-- A roll channel's depth condition (R89). -/
inductive DepthCondition where
  | atDepth | out | unknown
  deriving DecidableEq, Repr

/-- The role of a port (spec/00_scope.md, "The Masters and Their Roles"). -/
inductive Role where
  | line | process | station | data | none
  deriving DecidableEq, Repr, Inhabited

/-- The kind of the last start (R154). -/
inductive StartKind where
  | cold | warm | nvLost
  deriving DecidableEq, Repr

/-- Whether the card runs, or is held until power-good is restored and RACK RESET released (R154). -/
inductive Power where
  | running | held
  deriving DecidableEq, Repr

/-- The three lanes (Figure 10-7). -/
inductive Lane where
  | a | b | main
  deriving DecidableEq, Repr

/-! ### The machine table (Figure 9-1) -/

/-- A zone's first and last slot position (section 2.2). -/
structure ZoneRange where
  first : Nat
  last : Nat
  deriving DecidableEq, Repr, Inhabited

/-- The geometry group. -/
structure Geometry where
  depthA : Nat
  depthB : Nat
  depthMain : Nat
  zones : PerZone (Option ZoneRange)
  gauge : Nat
  marker : Nat
  fine : Nat
  immersion : PerBox Nat
  deriving DecidableEq, Repr, Inhabited

/-- The measurement group: weights in µm and µL, timeout in ms, age limit in s. -/
structure Measurement where
  trackWeight : Nat
  feedWeight : Nat
  liquorWeight : PerBox Nat
  standstillTimeout : Nat
  hysteresis : Nat
  gaugeSpan : Nat
  ageLimit : Nat
  deriving DecidableEq, Repr, Inhabited

/-- The actuators group. -/
structure Actuators where
  travel : Nat
  stepRate : Nat
  pressureLimit : Nat
  rampRate : Nat
  autoLiftDelay : Nat
  autoDip : Bool
  jetPulse : Nat
  deriving DecidableEq, Repr, Inhabited

/-- The beam group. -/
structure BeamSettings where
  stopLead : Nat
  overrunTolerance : Nat
  deriving DecidableEq, Repr, Inhabited

/-- The machine table; the ports group is the lock gap alone. -/
structure MachineTable where
  geometry : Geometry
  measurement : Measurement
  actuators : Actuators
  beam : BeamSettings
  lockGap : Nat
  deriving DecidableEq, Repr, Inhabited

/-! ### The style record (R126) -/

/-- One point of a squeeze curve. -/
structure CurvePoint where
  speed : Nat
  pressure : Nat
  deriving DecidableEq, Repr, Inhabited

/-- Group 1. -/
structure YarnGroup where
  ends : PerBox Nat
  tex : Nat
  window : Nat
  deriving DecidableEq, Repr, Inhabited

/-- Group 4. -/
structure BoxGroup where
  dip : PerBox Nat
  standstill : PerBox Nat
  soakLimit : Nat
  deriving DecidableEq, Repr, Inhabited

/-- A band, low and high, both ends inside. -/
structure Band where
  low : Nat
  high : Nat
  deriving DecidableEq, Repr, Inhabited

/-- Group 5. -/
structure BandGroup where
  addOn : Band
  moisture : Band
  stretchLimit : Nat
  crawlThreshold : Nat
  deriving DecidableEq, Repr, Inhabited

/-- Group 6: dwell limit in tenths of a second, slow distance in m, merge gap in mm. -/
structure DryingGroup where
  dwellLimit : Nat
  slowDistance : Nat
  mergeGap : Nat
  deriving DecidableEq, Repr, Inhabited

/-- Group 7. -/
structure MaskGroup where
  beamFault : CauseSet
  ink : CauseSet
  deriving DecidableEq, Repr, Inhabited

/-- A style set: its seven write groups, groups 2 and 3 being the curves of the two boxes. -/
structure Style where
  yarn : YarnGroup
  curve : PerBox (List CurvePoint)
  boxes : BoxGroup
  bands : BandGroup
  drying : DryingGroup
  masks : MaskGroup
  deriving DecidableEq, Repr, Inhabited

/-- What STORE SETTINGS stores and a start loads: machine table, style sets, active index, role table (R152). -/
structure Settings where
  machine : MachineTable
  styles : PerStyle Style
  active : StyleIndex
  roles : PerPort Role
  deriving DecidableEq, Repr, Inhabited

/-! ### The sheet (section 2.3) -/

/-- A lane record. -/
structure LaneRecord where
  sequence : Nat
  style : StyleIndex
  ends : Nat
  speed : Nat
  pressure : Nat
  roll : Option Nat
  liquor : Nat
  concentration : Option Nat
  density : Option Nat
  addOn : Option Nat
  stretch : Option Int
  dwell : Nat
  causes : CauseSet
  deriving DecidableEq, Repr

/-- A main record. -/
structure MainRecord where
  sequence : Nat
  seqA : Option Nat
  seqB : Option Nat
  style : StyleIndex
  addOn : Option Nat
  moisture : Option Nat
  dwell : Nat
  causes : CauseSet
  deriving DecidableEq, Repr

/-- An open segment: its liquor total as a pulse count (R44) and its cause set (R22). -/
structure OpenSegment where
  pulses : Nat
  causes : CauseSet
  deriving DecidableEq, Repr

/-! ### Rolls (section 5.1) -/

/-- A master move or home in flight: the originating port and the start position; its kind is the roll state's. -/
structure Flight where
  port : Port
  start : Nat
  deriving DecidableEq, Repr

/-- The roll states, each with what is present in it alone: the motion target, the home step count, the move in
flight. AUTO_LIFT heads for 0. -/
inductive RollState where
  | unrefIdle
  | idle
  | moving (target : Nat) (flight : Flight)
  | homing (steps : Nat) (flight : Flight)
  | autoLift
  | autoLower (target : Nat)
  deriving DecidableEq, Repr

/-- The kind of a completion record. -/
inductive MoveKind where
  | move | home
  deriving DecidableEq, Repr

/-- The status of a completion record. -/
inductive MoveEnd where
  | done | preempted | homeFail | fieldReset
  deriving DecidableEq, Repr

/-- A completion record (R95). -/
structure Completion where
  kind : MoveKind
  status : MoveEnd
  start : Nat
  finish : Option Nat
  port : Port
  deriving DecidableEq, Repr

/-- A roll channel. `stepPhase` is the part of the step period run, in step rate times microseconds. -/
structure RollChannel where
  state : RollState
  position : Nat
  depth : DepthCondition
  slot : Option Completion
  stepPhase : Nat
  deriving DecidableEq, Repr

/-- A pressure channel. -/
structure PressureChannel where
  target : Nat
  commanded : Nat
  deriving DecidableEq, Repr

/-! ### Add-on and condition channels -/

/-- A report register (section 3.1); `age` is the age timer's time, absent while it is stopped. -/
structure Report where
  concentration : Option Nat
  density : Option Nat
  state : ConcState
  age : Option Nat
  deriving DecidableEq, Repr

/-- A soak channel (section 4.1). -/
structure SoakChannel where
  timer : Nat
  crossed : Bool
  pending : Nat
  immersed : Bool
  deriving DecidableEq, Repr

/-- A zone channel (section 4.1). -/
structure ZoneChannel where
  heated : Bool
  accumulator : Nat
  crossed : Bool
  deriving DecidableEq, Repr

/-! ### Beams (section 6.1) -/

/-- Count, sum, minimum and maximum of a delivered figure; the last two absent while the count is 0. -/
structure Stats where
  count : Nat
  sum : Nat
  minimum : Option Nat
  maximum : Option Nat
  deriving DecidableEq, Repr

/-- A fault range: the part of the beam from its start up to, but not including, its end. -/
structure FaultRange where
  start : Nat
  finish : Nat
  causes : CauseSet
  absorbed : Bool
  deriving DecidableEq, Repr

/-- Why a beam was closed. -/
inductive CloseReason where
  | doff | closeSet
  deriving DecidableEq, Repr

/-- The beam record; the fault range list is ordered by start. -/
structure BeamRecord where
  number : Nat
  style : StyleIndex
  target : Nat
  cutLength : Nat
  wound : Nat
  cutsDue : Nat
  cutsSuppressed : Nat
  tracked : Nat
  untracked : Nat
  addOn : Stats
  moisture : Stats
  stops : Nat
  causes : CauseSet
  unplanned : Bool
  retained : Bool
  overrun : Bool
  closeReason : Option CloseReason
  ranges : List FaultRange
  deriving DecidableEq, Repr

/-- The three states in which a beam is open (section 6.2). -/
inductive BeamPhase where
  | opened | slowing | stopping
  deriving DecidableEq, Repr

/-- The three compares of the current beam, in mm (R110). -/
structure Compares where
  slow : Nat
  stop : Nat
  overrun : Nat
  deriving DecidableEq, Repr

/-- The beam being wound: its phase, its record and its compares, which are present exactly while a beam is open. -/
structure OpenBeam where
  phase : BeamPhase
  record : BeamRecord
  compares : Compares
  deriving DecidableEq, Repr

/-- An entry of the set plan: target in m, cut length in units of 100 mm (R121). -/
structure PlanEntry where
  number : Nat
  target : Nat
  cut : Nat
  deriving DecidableEq, Repr

/-! ### Ports and the store -/

/-- A port's snapshot (R148). -/
inductive Snapshot where
  | beam (record : BeamRecord)
  | plan (entries : List PlanEntry)
  deriving DecidableEq, Repr

/-- The port states (R136). -/
inductive PortState where
  | idle | receiving | queued | executing | replying
  deriving DecidableEq, Repr

/-- The frame a receive stage is assembling: its stored bytes (at most 64), the number of characters received,
whether one had a framing or a parity error, whether it began while the port was IDLE, and the time since its last
character (R136). -/
structure RxFrame where
  begunIdle : Bool
  bytes : List Byte
  count : Nat
  framing : Bool
  parity : Bool
  gap : Nat
  deriving DecidableEq, Repr

/-- A result frame in transmission; `linkError` marks an answer to a frame in error (R137). -/
structure Reply where
  bytes : List Byte
  linkError : Bool
  deriving DecidableEq, Repr

/-- A port controller (section 8.1), with the port's selected style (R127). -/
structure PortUnit where
  state : PortState
  rx : Option RxFrame
  queued : List Byte
  inBreak : Bool
  reply : Option Reply
  events : EventSet
  mask : EventSet
  keep : Bool
  snapshot : Option Snapshot
  selected : StyleIndex
  deriving DecidableEq, Repr

/-- What a bank's check word covers: the settings copy and the generation count (R152). -/
structure BankCopy where
  settings : Settings
  generation : Long
  deriving DecidableEq, Repr, Inhabited

/-- A bank of the nonvolatile store: its content, and its check word, none while the word is not written (R152). -/
structure Bank where
  content : BankCopy
  check : Option Nat
  deriving DecidableEq, Repr

/-- The two banks (R152). -/
inductive BankId where
  | bank1 | bank2
  deriving DecidableEq, Repr

/-- A settings store in flight (R153). -/
structure StoreFlight where
  copy : BankCopy
  bank : BankId
  port : Port
  elapsed : Nat
  deriving DecidableEq, Repr

end Sys2Proof.Machine

namespace Sys2Proof.Config
open Sys2Proof.Machine

/-- FREE VALUE: the check word of a bank's content, for which R152 gives neither rule nor width (log entry 15). -/
opaque bankCheckWord : BankCopy → Nat

/-- FREE VALUE: what a bank holds whose writing was stopped, which R153 leaves unstated. It is applied to the count of
free values drawn so far (log entry 15). -/
opaque stoppedBank : Nat → BankCopy

end Sys2Proof.Config
end

