-- ==== Sys2Proof/Machine/Flags.lean ====
section
/-! DEFINITION. Causes and event flags: their bit positions (Figure 10-5), sets of them (R20, R144), and the codes of
every enumerated value that travels on the line (Figures 10-4 and 10-7). -/

namespace Sys2Proof.Machine

/-- The bit of a cause in Figure 10-5. -/
def Cause.bit : Cause → Nat
  | .crawl => 0
  | .soak => 1
  | .lift => 2
  | .depthUnknown => 3
  | .concStale => 4
  | .concUnknown => 5
  | .windowShort => 6
  | .addOnLow => 7
  | .addOnHigh => 8
  | .stretchHigh => 9
  | .overdry => 10
  | .powerstop => 11
  | .moistLow => 12
  | .moistHigh => 13
  | .untrackedPart => 14
  | .untracked => 15

/-- The bit of an event flag in Figure 10-5. -/
def Flag.bit : Flag → Nat
  | .beamClosed => 0
  | .planLow => 1
  | .slowPoint => 2
  | .stopPoint => 3
  | .overrun => 4
  | .faultRange => 5
  | .rollADone => 6
  | .rollBDone => 7
  | .rollUnref => 8
  | .overdry => 9
  | .soak => 10
  | .inputFault => 11
  | .storeDone => 12
  | .lockBroken => 13
  | .overlap => 14
  | .restart => 15

/-- The set holding one cause. -/
def Cause.set (c : Cause) : CauseSet := BitVec.twoPow 16 c.bit

/-- The set holding one event flag. -/
def Flag.set (f : Flag) : EventSet := BitVec.twoPow 16 f.bit

/-- The set of a list of causes. -/
def causeSet (cs : List Cause) : CauseSet := cs.foldl (fun acc c => acc ||| c.set) 0

/-- The set holding a cause when a condition holds, else the empty set. -/
def causeIf (p : Bool) (c : Cause) : CauseSet := if p then c.set else 0

/-- Whether two sets share a member: the mask tests of R42, R109, R115 and R145. -/
def shares (x y : BitVec 16) : Bool := x &&& y != 0

/-- The status codes of Figure 10-4. -/
def Status.code : Status → Byte
  | .ok => 0x00
  | .clamped => 0x01
  | .started => 0x02
  | .late => 0x03
  | .none => 0x04
  | .skipped => 0x05
  | .range => 0x06
  | .busy => 0x07
  | .notStopped => 0x08
  | .invalid => 0x09
  | .notPermitted => 0x0A
  | .unreferenced => 0x0B
  | .pending => 0x0C
  | .emptyBeam => 0x0D
  | .planEmpty => 0x0E
  | .full => 0x0F
  | .activeStyle => 0x10
  | .noBoxB => 0x11
  | .beamOpen => 0x12
  | .linkError => 0x13

/-- The code of a port. -/
def portCode : Port → Nat
  | .p0 => 0
  | .p1 => 1
  | .p2 => 2
  | .p3 => 3

/-- The code of LINE STATE. -/
def LineState.code : LineState → Nat
  | .stopped => 0
  | .crawl => 1
  | .run => 2

/-- The code of a roll state. -/
def RollState.code : RollState → Nat
  | .unrefIdle => 0
  | .idle => 1
  | .moving _ _ => 2
  | .homing _ _ => 3
  | .autoLift => 4
  | .autoLower _ => 5

/-- The code of the beam state, IDLE while no beam is open. -/
def beamStateCode : Option BeamPhase → Nat
  | none => 0
  | some .opened => 1
  | some .slowing => 2
  | some .stopping => 3

/-- The code of a start kind. -/
def StartKind.code : StartKind → Nat
  | .cold => 0
  | .warm => 1
  | .nvLost => 2

/-- The code of a completion kind. -/
def MoveKind.code : MoveKind → Nat
  | .move => 0
  | .home => 1

/-- The code of a completion status. -/
def MoveEnd.code : MoveEnd → Nat
  | .done => 0
  | .preempted => 1
  | .homeFail => 2
  | .fieldReset => 3

/-- The code of a close reason. -/
def CloseReason.code : CloseReason → Nat
  | .doff => 0
  | .closeSet => 1

/-- The code of a zone. -/
def Zone.code : Zone → Nat
  | .predryA => 0
  | .predryB => 1
  | .main1 => 2
  | .main2 => 3
  | .main3 => 4
  | .main4 => 5

/-- The six zones, in the order of their codes. -/
def Zone.all : List Zone := [.predryA, .predryB, .main1, .main2, .main3, .main4]

/-- Every one-byte flag of a result: clear 0, set 1. -/
def flagCode (b : Bool) : Nat := if b then 1 else 0

end Sys2Proof.Machine
end

