-- ==== Sys2Proof/Machine/Factory.lean ====
section
/-! DEFINITION. The factory values of Figure 9-1 (machine table and role table) and of R134 (style sets), and a port
and a roll channel as every start leaves them. -/

namespace Sys2Proof.Machine

/-- Figure 9-1, geometry. -/
def factoryGeometry : Geometry where
  depthA := 40
  depthB := 32
  depthMain := 180
  zones := {
    predryA := some ⟨10, 35⟩, predryB := some ⟨8, 27⟩
    main1 := some ⟨0, 39⟩, main2 := some ⟨40, 79⟩, main3 := some ⟨80, 119⟩, main4 := none }
  gauge := 130
  marker := 140
  fine := 0
  immersion := ⟨800, 800⟩

/-- Figure 9-1, measurement. -/
def factoryMeasurement : Measurement where
  trackWeight := 1000
  feedWeight := 1000
  liquorWeight := ⟨1000, 1000⟩
  standstillTimeout := 300
  hysteresis := 10
  gaugeSpan := 200
  ageLimit := 120

/-- Figure 9-1, actuators. -/
def factoryActuators : Actuators where
  travel := 2000
  stepRate := 400
  pressureLimit := 400
  rampRate := 20
  autoLiftDelay := 20
  autoDip := true
  jetPulse := 40

/-- Figure 9-1: the factory machine table. -/
def factoryMachine : MachineTable where
  geometry := factoryGeometry
  measurement := factoryMeasurement
  actuators := factoryActuators
  beam := ⟨5000, 10000⟩
  lockGap := 1000

/-- R134: the factory values of a style set. -/
def factoryStyle : Style where
  yarn := { ends := ⟨4000, 0⟩, tex := 2000, window := 16 }
  curve := ⟨[⟨0, 100⟩], [⟨0, 100⟩]⟩
  boxes := { dip := ⟨1000, 1000⟩, standstill := ⟨40, 40⟩, soakLimit := 60 }
  bands := { addOn := ⟨0, 9999⟩, moisture := ⟨0, 300⟩, stretchLimit := 999, crawlThreshold := 300 }
  drying := { dwellLimit := 600, slowDistance := 50, mergeGap := 1000 }
  masks := {
    beamFault := causeSet [.soak, .overdry, .lift, .depthUnknown, .powerstop, .untracked]
    ink := causeSet [.soak, .overdry, .lift, .powerstop] }

/-- The factory role table: P0 LINE, P1 PROCESS, P2 STATION, P3 DATA. -/
def factoryRoles : PerPort Role := ⟨.line, .process, .station, .data⟩

/-- The working copy of an NV_LOST start (R154). -/
def factorySettings : Settings where
  machine := factoryMachine
  styles := ⟨factoryStyle, factoryStyle, factoryStyle, factoryStyle⟩
  active := 0
  roles := factoryRoles

/-- A port at the opening of the start-up hold (R155), RESTART posted. -/
def PortUnit.start : PortUnit where
  state := .idle
  rx := none
  queued := []
  inBreak := false
  reply := none
  events := Flag.restart.set
  mask := 0xFFFF
  keep := false
  snapshot := none
  selected := 0

/-- A roll channel at every start (R103). -/
def RollChannel.start : RollChannel where
  state := .unrefIdle
  position := 0
  depth := .unknown
  slot := none
  stepPhase := 0

end Sys2Proof.Machine
end

