-- ==== Sys2Proof/Machine/State.lean ====
section
/-! DEFINITION. The state of the card, unit by unit, as plain data; the fault and refusal reasons; and the state right
after reset: the opening of the start-up hold of an NV_LOST start (R155; log entry 1). -/

namespace Sys2Proof.Machine

/-- No step of the card stops the machine: what can go wrong is a status of a result frame, a LINK_ERROR, an input
fault detail or an event flag. There is therefore no fault (safe: nothing is cut short). -/
inductive Fault where
  deriving DecidableEq, Repr

/-- Why a command is not run. -/
inductive Refusal where
  /-- Raised only by an arm of `exec` whose command has no meaning yet; safe, since nothing can be proved through
  it. No arm of this model raises it. -/
  | notModelled (mnemonic : String)
  deriving DecidableEq, Repr

/-- The Length Counter Unit (section 1.1). -/
structure LengthUnit where
  track : Long
  trackResidue : Nat
  feed : Long
  feedResidue : Nat
  timebase : Long
  lastCapture : Option Long
  periods : List Nat
  speed : Nat
  lineState : LineState
  standstill : Option Timer
  origin : Long
  distance : Nat
  stretchRing : List Long
  feedSilent : Bool
  deriving DecidableEq, Repr

/-- The Path Tracking Unit (section 2.1). Lane B is an empty list of slots, and its open segment is empty, while
depth B is 0. -/
structure PathUnit where
  lanes : PerBox (List (Option LaneRecord))
  main : List (Option MainRecord)
  segments : PerBox OpenSegment
  sequence : Nat
  deriving DecidableEq, Repr

/-- The Add-On Calculator (section 3.1); the pulse counts stand in the open segments. -/
structure AddOnUnit where
  windows : PerBox (List Nat)
  reports : PerBox Report
  deriving DecidableEq, Repr

/-- The Condition Monitor (section 4.1). -/
structure MonitorUnit where
  interval : Option Nat
  soak : PerBox SoakChannel
  zones : PerZone ZoneChannel
  gauge : GaugeState
  regain : Option Nat
  sampleTimer : Nat
  deriving DecidableEq, Repr

/-- The Box Control Unit (section 5.1), with the two HOME SWITCH input levels. -/
structure BoxUnit where
  pressure : PerBox PressureChannel
  rampTimer : Nat
  rolls : PerBox RollChannel
  autoLift : Option Timer
  fieldReset : Option Nat
  homeSwitch : PerBox Bool
  deriving DecidableEq, Repr

/-- The Beam Unit (section 6.1); the beam state is IDLE while `current` is absent. Jet timers hold the time left. -/
structure BeamUnit where
  current : Option OpenBeam
  cutJet : Option Nat
  faultJet : Option Nat
  plan : List PlanEntry
  store : List BeamRecord
  deriving DecidableEq, Repr

/-- The Command Arbiter (section 8.1). -/
structure Arbiter where
  pointer : Port
  lock : Option Port
  lockGap : Option Timer
  deriving DecidableEq, Repr

/-- The nonvolatile store: the two banks and the store in flight (R152, R153). -/
structure NvStore where
  bank1 : Bank
  bank2 : Bank
  flight : Option StoreFlight
  deriving DecidableEq, Repr

/-- The card. `pending` is the queue of waiting commands and `freeCount` the number of free values drawn so far:
these two are the model's own; every other field is the spec's (INVENTORY.md). -/
structure State where
  pending : List Instr
  freeCount : Nat
  power : Power
  startKind : StartKind
  hold : Option Nat
  mark : Bool
  line : LengthUnit
  path : PathUnit
  addOn : AddOnUnit
  monitor : MonitorUnit
  boxes : BoxUnit
  beams : BeamUnit
  settings : Settings
  pendingStyle : Option StyleIndex
  nv : NvStore
  ports : PerPort PortUnit
  arbiter : Arbiter
  deriving DecidableEq, Repr

/-- The card at the opening of the start-up hold of an NV_LOST start (R15, R38, R60, R76, R87, R103, R123, R134, R154,
R155). The timebase, which R15 leaves unstated, and the HOME SWITCH levels are log entries 4 and 6, the content of the
banks, which are not good, log entry 15. -/
def State.reset : State where
  pending := []
  freeCount := 0
  power := .running
  startKind := .nvLost
  hold := some 0
  mark := false
  line := {
    track := 0, trackResidue := 0, feed := 0, feedResidue := 0, timebase := 0, lastCapture := none, periods := []
    speed := 0, lineState := .stopped, standstill := none, origin := 0, distance := 0, stretchRing := []
    feedSilent := false }
  path := {
    lanes := ⟨List.replicate 40 none, List.replicate 32 none⟩
    main := List.replicate 180 none
    segments := ⟨⟨0, Cause.depthUnknown.set⟩, ⟨0, 0⟩⟩
    sequence := 0 }
  addOn := {
    windows := ⟨[], []⟩
    reports := ⟨⟨none, none, .unknown, none⟩, ⟨none, none, .unknown, none⟩⟩ }
  monitor := {
    interval := some 0
    soak := ⟨⟨0, false, 0, true⟩, ⟨0, false, 0, true⟩⟩
    zones := ⟨⟨true, 0, false⟩, ⟨true, 0, false⟩, ⟨true, 0, false⟩, ⟨true, 0, false⟩, ⟨true, 0, false⟩,
      ⟨true, 0, false⟩⟩
    gauge := .none
    regain := none
    sampleTimer := 0 }
  boxes := {
    pressure := ⟨⟨0, 0⟩, ⟨0, 0⟩⟩
    rampTimer := 0
    rolls := ⟨.start, .start⟩
    autoLift := some ⟨0, 20 * Config.second⟩
    fieldReset := none
    homeSwitch := ⟨false, false⟩ }
  beams := { current := none, cutJet := none, faultJet := none, plan := [], store := [] }
  settings := factorySettings
  pendingStyle := none
  nv := { bank1 := ⟨⟨factorySettings, 0⟩, none⟩, bank2 := ⟨⟨factorySettings, 0⟩, none⟩, flight := none }
  ports := ⟨.start, .start, .start, .start⟩
  arbiter := { pointer := .p0, lock := none, lockGap := none }

end Sys2Proof.Machine
end

