-- ==== Sys2Proof/Machine/Ops.lean ====
section
/-! DEFINITION. The named operations every unit shares: access to ports, boxes, lanes and styles; event posting
(R144); cause additions (R20, R23); zone additions (R21); window emptying (R51); exact rounding (spec/00_scope.md,
"Arithmetic"). -/

namespace Sys2Proof.Machine

/-! ### Arithmetic -/

/-- "Round half up": divide, then add one to the quotient if twice the remainder is at least the divisor. -/
def roundHalfUp (n d : Nat) : Nat := n / d + if d ≤ 2 * (n % d) then 1 else 0

/-- The rounding of a falling curve: one is added only when twice the remainder exceeds the divisor (R85). -/
def roundHalfDown (n d : Nat) : Nat := n / d + if d < 2 * (n % d) then 1 else 0

/-- "ceil(x ÷ y)". -/
def ceilDiv (x y : Nat) : Nat := (x + y - 1) / y

/-- A value clamped to a range. -/
def clamp (low high x : Nat) : Nat := if x < low then low else if high < x then high else x

/-- A list with an item joined as its newest, its oldest entries leaving so that at most `size` stay (R3, R11, R50). -/
def pushRing {α : Type} (size : Nat) (ring : List α) (x : α) : List α :=
  (ring ++ [x]).drop (ring.length + 1 - size)

/-! ### Free values -/

/-- The state with one more free value drawn (log entry 4). -/
def State.drawFree (s : State) : State := { s with freeCount := s.freeCount + 1 }

/-! ### Settings, ports, boxes -/

/-- The active style (R126). -/
def State.style (s : State) : Style := s.settings.styles.get s.settings.active

/-- The geometry group of the working machine table. -/
def State.geometry (s : State) : Geometry := s.settings.machine.geometry

/-- The measurement group of the working machine table. -/
def State.measurement (s : State) : Measurement := s.settings.machine.measurement

/-- The actuators group of the working machine table. -/
def State.actuators (s : State) : Actuators := s.settings.machine.actuators

/-- Whether lane B exists: depth B is at least 1 (R18). -/
def State.laneBExists (s : State) : Bool := s.geometry.depthB != 0

/-- Whether a box's lane exists (R18). -/
def State.laneExists (s : State) : Box → Bool
  | .a => true
  | .b => s.laneBExists

/-- Whether a box is in use: its lane exists and its ends in the active style are at least 1 (R64). -/
def State.inUse (s : State) (x : Box) : Bool := s.laneExists x && decide (1 ≤ s.style.yarn.ends.get x)

/-- A zone's range, absent for a zone that is not present (R64); pre-dry zone B is absent without lane B (R19). -/
def State.zoneRange (s : State) (z : Zone) : Option ZoneRange :=
  if z = .predryB ∧ s.laneBExists = false then none else s.geometry.zones.get z

/-- A port's controller. -/
def State.port (s : State) (p : Port) : PortUnit := s.ports.get p

/-- The state with one port's controller replaced. -/
def State.setPort (s : State) (p : Port) (u : PortUnit) : State := { s with ports := s.ports.set p u }

/-- A port's role in the working role table, read at each use (section 8.1). -/
def State.role (s : State) (p : Port) : Role := s.settings.roles.get p

/-- A box's roll channel. -/
def State.roll (s : State) (x : Box) : RollChannel := s.boxes.rolls.get x

/-- The state with one roll channel replaced. -/
def State.setRoll (s : State) (x : Box) (r : RollChannel) : State :=
  { s with boxes := { s.boxes with rolls := s.boxes.rolls.set x r } }

/-- A box's soak channel. -/
def State.soak (s : State) (x : Box) : SoakChannel := s.monitor.soak.get x

/-- The state with one soak channel replaced. -/
def State.setSoak (s : State) (x : Box) (c : SoakChannel) : State :=
  { s with monitor := { s.monitor with soak := s.monitor.soak.set x c } }

/-- A box's open segment. -/
def State.segment (s : State) (x : Box) : OpenSegment := s.path.segments.get x

/-- The state with one open segment replaced. -/
def State.setSegment (s : State) (x : Box) (o : OpenSegment) : State :=
  { s with path := { s.path with segments := s.path.segments.set x o } }

/-- A box's report register. -/
def State.report (s : State) (x : Box) : Report := s.addOn.reports.get x

/-- The state with one report register replaced. -/
def State.setReport (s : State) (x : Box) (r : Report) : State :=
  { s with addOn := { s.addOn with reports := s.addOn.reports.set x r } }

/-- A box's pickup window. -/
def State.window (s : State) (x : Box) : List Nat := s.addOn.windows.get x

/-- The state with one pickup window replaced. -/
def State.setWindow (s : State) (x : Box) (w : List Nat) : State :=
  { s with addOn := { s.addOn with windows := s.addOn.windows.set x w } }

/-- The slots of lane A or lane B. -/
def State.lane (s : State) (x : Box) : List (Option LaneRecord) := s.path.lanes.get x

/-- The state with one of lanes A and B replaced. -/
def State.setLane (s : State) (x : Box) (l : List (Option LaneRecord)) : State :=
  { s with path := { s.path with lanes := s.path.lanes.set x l } }

/-! ### Events and attention -/

/-- A controller whose event set has a flag added (R144). -/
def PortUnit.withEvent (u : PortUnit) (f : Flag) : PortUnit := { u with events := u.events ||| f.set }

/-- A flag posted to every port (R144). -/
def State.post (s : State) (f : Flag) : State := { s with ports := s.ports.map fun u => u.withEvent f }

/-- A flag posted to one port (R144). -/
def State.postTo (s : State) (p : Port) (f : Flag) : State := s.setPort p ((s.port p).withEvent f)

/-- A flag posted to every port when a condition holds. -/
def State.postIf (s : State) (c : Bool) (f : Flag) : State := if c then s.post f else s

/-- Whether a port's event set and attention mask share a flag: the attention bit of a result frame (R145). -/
def PortUnit.attention (u : PortUnit) : Bool := shares u.events u.mask

/-- A port's attention line: its event set and mask share a flag, and the start-up hold is over (R145, R155). -/
def State.attentionLine (s : State) (p : Port) : Bool := s.hold.isNone && (s.port p).attention

/-! ### Causes -/

/-- Causes added to a lane's open segment as a union; dropped for lane B while it does not exist (R20, R23). -/
def State.addCauses (s : State) (x : Box) (c : CauseSet) : State :=
  if s.laneExists x then s.setSegment x { s.segment x with causes := (s.segment x).causes ||| c } else s

/-- Causes added to the open segment of a box in use (R65, R90). -/
def State.addCausesInUse (s : State) (x : Box) (c : CauseSet) : State :=
  if s.inUse x then s.addCauses x c else s

/-- The causes the conditions standing at an opening call for: CRAWL (R65), LIFT or DEPTH_UNKNOWN (R90). -/
def State.standingCauses (s : State) (x : Box) : CauseSet :=
  causeIf (s.line.lineState == .crawl) .crawl ||| causeIf ((s.roll x).depth == .out) .lift
    ||| causeIf ((s.roll x).depth == .unknown) .depthUnknown

/-- A new open segment of an existing lane, announced as opened (R22); `extra` is SOAK or nothing (R28). -/
def State.openSegment (s : State) (x : Box) (extra : CauseSet) : State :=
  if s.laneExists x then
    let opened := s.setSegment x ⟨0, extra⟩
    opened.addCausesInUse x (opened.standingCauses x)
  else s.setSegment x ⟨0, 0⟩

/-! ### Zone additions (R21) -/

/-- A dwell with an increment added, saturating at 65,535 (R21). -/
def addDwell (dwell increment : Nat) : Nat := min (dwell + increment) Config.maxWord

/-- A lane record with causes and a dwell increment added (R21). -/
def LaneRecord.add (r : LaneRecord) (c : CauseSet) (d : Nat) : LaneRecord :=
  { r with causes := r.causes ||| c, dwell := addDwell r.dwell d }

/-- A main record with causes and a dwell increment added (R21). -/
def MainRecord.add (r : MainRecord) (c : CauseSet) (d : Nat) : MainRecord :=
  { r with causes := r.causes ||| c, dwell := addDwell r.dwell d }

/-- A lane with a function applied to the record of each slot of a range; untracked slots stay (R21). -/
def mapRange {α : Type} (range : ZoneRange) (f : α → α) (lane : List (Option α)) : List (Option α) :=
  lane.mapIdx fun i slot => if range.first ≤ i ∧ i ≤ range.last then slot.map f else slot

/-- The addition of R21 to a zone's lane over a range of positions. -/
def State.addToRange (s : State) (z : Zone) (range : ZoneRange) (c : CauseSet) (d : Nat) : State :=
  match z with
  | .predryA => s.setLane .a (mapRange range (fun r => r.add c d) (s.lane .a))
  | .predryB => s.setLane .b (mapRange range (fun r => r.add c d) (s.lane .b))
  | .main1 | .main2 | .main3 | .main4 =>
    { s with path := { s.path with main := mapRange range (fun r => r.add c d) s.path.main } }

/-- The addition of R21 to a zone; nothing for a zone that is not present. -/
def State.addToZone (s : State) (z : Zone) (c : CauseSet) (d : Nat) : State :=
  match s.zoneRange z with
  | some range => s.addToRange z range c d
  | none => s

/-! ### Windows -/

/-- A box's pickup window emptied (R51). -/
def State.emptyWindow (s : State) (x : Box) : State := s.setWindow x []

/-- Both pickup windows emptied (R51). -/
def State.emptyWindows (s : State) : State := (s.emptyWindow .a).emptyWindow .b

/-! ### Guarding the start logic -/

/-- What a command or event does while the card runs; while it is held nothing is acted on but a start (R154). -/
def State.whenRunning (s : State) (f : State → State) : State := if s.power = .running then f s else s

end Sys2Proof.Machine
end

