-- ==== Sys2Proof/Machine/Operands.lean ====
section
/-! DEFINITION. The operand bytes of the commands: the enumerations of Figure 10-7 (a byte outside one gives none,
and the owning unit refuses it RANGE), the guards of R141 and the permissions of Figure 8-2. -/

namespace Sys2Proof.Machine

/-- The lane a byte names. -/
def laneOf (b : Byte) : Option Lane := if b = 0 then some .a else if b = 1 then some .b else if b = 2 then some .main else none

/-- The box a byte names. -/
def boxOf (b : Byte) : Option Box := if b = 0 then some .a else if b = 1 then some .b else none

/-- The box a byte names, absent also for box B while lane B does not exist (R46, R91, R93, R96). -/
def State.existingBox (s : State) (b : Byte) : Option Box := (boxOf b).filter fun x => s.laneExists x

/-- The zone a byte names (R71). -/
def zoneOf (b : Byte) : Option Zone := Zone.all.find? fun z => z.code == b.toNat

/-- A heat setting: HEATED 0, UNHEATED 1 (R71); the answer is the heat flag. -/
def heatOf (b : Byte) : Option Bool := if b = 0 then some true else if b = 1 then some false else none

/-- A setting that is clear 0 or set 1: KEEP, zone presence, auto-dip. -/
def settingOf (b : Byte) : Option Bool := if b = 0 then some false else if b = 1 then some true else none

/-- A style index, 0 to 3 (R127, R131). -/
def styleIndexOf (b : Byte) : Option StyleIndex := if h : b.toNat < 4 then some ⟨b.toNat, h⟩ else none

/-- The role a byte names (R151). -/
def roleOf (b : Byte) : Option Role :=
  if b = 0 then some .line else if b = 1 then some .process else if b = 2 then some .station
  else if b = 3 then some .data else if b = 4 then some .none else none

/-- The fields a FIND can name (R41). -/
inductive FindField where
  | speed | pressure | addOn | stretch | moisture | dwell
  deriving DecidableEq, Repr

/-- The FIND field a byte names. -/
def findFieldOf (b : Byte) : Option FindField :=
  if b = 0 then some .speed else if b = 1 then some .pressure else if b = 2 then some .addOn
  else if b = 3 then some .stretch else if b = 4 then some .moisture else if b = 5 then some .dwell else none

/-- The modes of a FIND (R41). -/
inductive FindMode where
  | eq | le | ge | any
  deriving DecidableEq, Repr

/-- The FIND mode a byte names. -/
def findModeOf (b : Byte) : Option FindMode :=
  if b = 0 then some .eq else if b = 1 then some .le else if b = 2 then some .ge
  else if b = 3 then some .any else none

/-- The modes of MOVE ROLL (R91). -/
inductive MoveMode where
  | absolute | relative
  deriving DecidableEq, Repr

/-- The MOVE ROLL mode a byte names. -/
def moveModeOf (b : Byte) : Option MoveMode :=
  if b = 0 then some .absolute else if b = 1 then some .relative else none

/-- Whether no slot of any existing lane holds a record (R43). -/
def State.pathEmpty (s : State) : Bool :=
  (s.lane .a).all Option.isNone && (s.lane .b).all Option.isNone && s.path.main.all Option.isNone

/-- Whether a roll is in IDLE. -/
def RollState.isIdle : RollState → Bool
  | .idle => true
  | .unrefIdle | .moving _ _ | .homing _ _ | .autoLift | .autoLower _ => false

/-- Whether a guard holds in a state (the table of R141). -/
def State.guardHolds (s : State) (g : BitVec 3) : Bool :=
  if g = 1 then s.line.lineState == .stopped
  else if g = 2 then s.line.lineState != .stopped
  else if g = 3 then s.beams.current.isSome
  else if g = 4 then s.beams.current.isNone
  else if g = 5 then (s.roll .a).state.isIdle
  else if g = 6 then s.laneBExists && (s.roll .b).state.isIdle
  else if g = 7 then s.pathEmpty
  else true

/-- Whether a role is permitted a command (Figure 8-2). -/
def permitted (r : Role) : CmdKind → Bool
  | .readStatus | .readSegment | .find | .selectStyle | .readStyle | .readMachine | .exchangeEvents
  | .setAttentionMask | .snap | .readSnap => r != .none
  | .doff | .closeSet | .setTarget | .clearPath | .moveRoll | .homeRoll | .collect => r == .line || r == .station
  | .resetField => r == .line
  | .reportBox | .zoneHeat => r == .process
  | .writeStyle | .activateStyle | .writeMachine | .writeRoles | .storeSettings => r == .station
  | .planAppend | .planClear | .releaseBeam => r == .station || r == .data

/-- The urgent class of the arbiter (R140). -/
def CmdKind.urgent : CmdKind → Bool
  | .doff | .closeSet | .resetField | .moveRoll | .homeRoll => true
  | .readStatus | .readSegment | .find | .selectStyle | .readStyle | .readMachine | .exchangeEvents
  | .setAttentionMask | .snap | .readSnap | .setTarget | .clearPath | .collect | .reportBox | .zoneHeat
  | .writeStyle | .activateStyle | .writeMachine | .writeRoles | .storeSettings | .planAppend | .planClear
  | .releaseBeam => false

end Sys2Proof.Machine
end

