-- ==== Sys2Proof/Machine/Formats.lean ====
section
/-! DEFINITION. The layouts of results (chapter 10): values most significant byte first, signed values in two's
complement (R156), optional fields with their absent byte (R158), the records of Figure 10-6, the style and machine
groups of Figures 10-8 and 10-9, and the result frame of Figure 10-2. -/

namespace Sys2Proof.Machine

/-! ### Values -/

/-- A one-byte value. -/
def u8 (n : Nat) : List Byte := [BitVec.ofNat 8 n]
/-- A two-byte value. -/
def u16 (n : Nat) : List Byte := be16 (BitVec.ofNat 16 n)
/-- A four-byte value. -/
def u32 (n : Nat) : List Byte := be32 (BitVec.ofNat 32 n)
/-- An eight-byte value. -/
def u64 (n : Nat) : List Byte := u32 (n / 4294967296) ++ u32 n
/-- A signed two-byte value. -/
def s16 (i : Int) : List Byte := be16 (BitVec.ofInt 16 i)
/-- A one-byte flag of a result. -/
def flag8 (b : Bool) : List Byte := u8 (flagCode b)
/-- An optional two-byte value; the value bytes of an absent field are 0 (R158). -/
def opt16 (o : Option Nat) : List Byte := u16 (o.getD 0)
/-- An optional four-byte value. -/
def opt32 (o : Option Nat) : List Byte := u32 (o.getD 0)

/-- The number whose bit n says that optional field n is absent. -/
def absentBits : List Bool → Nat
  | [] => 0
  | b :: bs => flagCode b + 2 * absentBits bs

/-- The absent byte of a layout, from the absence of its optional fields in order (R158). -/
def absentByte (fields : List Bool) : List Byte := u8 (absentBits fields)

/-! ### Records (Figure 10-6) -/

/-- A lane record, 30 bytes. -/
def LaneRecord.bytes (r : LaneRecord) : List Byte :=
  u32 r.sequence ++ u8 r.style ++ u16 r.ends ++ u16 r.speed ++ u16 r.pressure ++ opt16 r.roll ++ u32 r.liquor
    ++ opt16 r.concentration ++ opt16 r.density ++ opt16 r.addOn ++ s16 (r.stretch.getD 0) ++ u16 r.dwell
    ++ be16 r.causes
    ++ absentByte [r.roll.isNone, r.concentration.isNone, r.density.isNone, r.addOn.isNone, r.stretch.isNone]

/-- A main record, 22 bytes. -/
def MainRecord.bytes (r : MainRecord) : List Byte :=
  u32 r.sequence ++ opt32 r.seqA ++ opt32 r.seqB ++ u8 r.style ++ opt16 r.addOn ++ opt16 r.moisture
    ++ u16 r.dwell ++ be16 r.causes
    ++ absentByte [r.seqA.isNone, r.seqB.isNone, r.addOn.isNone, r.moisture.isNone]

/-- Count, sum, minimum and maximum. -/
def Stats.bytes (t : Stats) : List Byte := u32 t.count ++ u64 t.sum ++ opt16 t.minimum ++ opt16 t.maximum

/-- The flags byte of a beam header: UNPLANNED bit 0, RETAINED bit 1, OVERRUN bit 2. -/
def BeamRecord.flags (r : BeamRecord) : Nat := flagCode r.unplanned + 2 * flagCode r.retained + 4 * flagCode r.overrun

/-- A beam header, 71 bytes. -/
def BeamRecord.header (r : BeamRecord) : List Byte :=
  u16 r.number ++ u8 r.style ++ u32 r.target ++ u32 r.cutLength ++ u32 r.wound ++ u32 r.cutsDue
    ++ u32 r.cutsSuppressed ++ u32 r.tracked ++ u32 r.untracked ++ r.addOn.bytes ++ r.moisture.bytes
    ++ u16 r.stops ++ be16 r.causes ++ u8 r.flags ++ u8 ((r.closeReason.map CloseReason.code).getD 0)
    ++ absentByte [r.addOn.minimum.isNone, r.moisture.minimum.isNone, r.closeReason.isNone]
    ++ u8 r.ranges.length

/-- A fault range, 11 bytes. -/
def FaultRange.bytes (r : FaultRange) : List Byte :=
  u32 r.start ++ u32 r.finish ++ be16 r.causes ++ flag8 r.absorbed

/-- A plan entry, 6 bytes. -/
def PlanEntry.bytes (e : PlanEntry) : List Byte := u16 e.number ++ u16 e.target ++ u16 e.cut

/-- A completion record, 8 bytes (Figure 10-10, COLLECT). -/
def Completion.bytes (c : Completion) : List Byte :=
  u8 c.kind.code ++ u8 c.status.code ++ u16 c.start ++ opt16 c.finish ++ u8 (portCode c.port)
    ++ absentByte [c.finish.isNone]

/-! ### Style groups (Figure 10-8) -/

/-- The bytes of curve points. -/
def curveBytes : List CurvePoint → List Byte
  | [] => []
  | p :: ps => u16 p.speed ++ u16 p.pressure ++ curveBytes ps

/-- The fields of a style group, 1 to 7; none for another group number. -/
def Style.groupBytes (t : Style) (group : Byte) : Option (List Byte) :=
  if group = 1 then some (u16 t.yarn.ends.a ++ u16 t.yarn.ends.b ++ u16 t.yarn.tex ++ u8 t.yarn.window)
  else if group = 2 then some (u8 t.curve.a.length ++ curveBytes t.curve.a)
  else if group = 3 then some (u8 t.curve.b.length ++ curveBytes t.curve.b)
  else if group = 4 then
    some (u16 t.boxes.dip.a ++ u16 t.boxes.dip.b ++ u16 t.boxes.standstill.a ++ u16 t.boxes.standstill.b
      ++ u16 t.boxes.soakLimit)
  else if group = 5 then
    some (u16 t.bands.addOn.low ++ u16 t.bands.addOn.high ++ u16 t.bands.moisture.low ++ u16 t.bands.moisture.high
      ++ u16 t.bands.stretchLimit ++ u16 t.bands.crawlThreshold)
  else if group = 6 then some (u16 t.drying.dwellLimit ++ u16 t.drying.slowDistance ++ u16 t.drying.mergeGap)
  else if group = 7 then some (be16 t.masks.beamFault ++ be16 t.masks.ink)
  else none

/-! ### Machine groups (Figure 10-9) -/

/-- An optional zone of lane A or B: presence, first, last. -/
def zoneBytes (z : Option ZoneRange) : List Byte :=
  flag8 z.isSome ++ u8 ((z.map ZoneRange.first).getD 0) ++ u8 ((z.map ZoneRange.last).getD 0)

/-- An optional main zone: presence, first, last. -/
def mainZoneBytes (z : Option ZoneRange) : List Byte :=
  flag8 z.isSome ++ u16 ((z.map ZoneRange.first).getD 0) ++ u16 ((z.map ZoneRange.last).getD 0)

/-- The geometry group, 39 bytes. -/
def Geometry.bytes (g : Geometry) : List Byte :=
  u8 g.depthA ++ u8 g.depthB ++ u16 g.depthMain ++ zoneBytes g.zones.predryA ++ zoneBytes g.zones.predryB
    ++ mainZoneBytes g.zones.main1 ++ mainZoneBytes g.zones.main2 ++ mainZoneBytes g.zones.main3
    ++ mainZoneBytes g.zones.main4 ++ u16 g.gauge ++ u16 g.marker ++ u8 g.fine ++ u16 g.immersion.a
    ++ u16 g.immersion.b

/-- The measurement group, 15 bytes. -/
def Measurement.bytes (m : Measurement) : List Byte :=
  u16 m.trackWeight ++ u16 m.feedWeight ++ u16 m.liquorWeight.a ++ u16 m.liquorWeight.b ++ u16 m.standstillTimeout
    ++ u8 m.hysteresis ++ u16 m.gaugeSpan ++ u16 m.ageLimit

/-- The actuators group, 11 bytes. -/
def Actuators.bytes (x : Actuators) : List Byte :=
  u16 x.travel ++ u16 x.stepRate ++ u16 x.pressureLimit ++ u8 x.rampRate ++ u16 x.autoLiftDelay ++ flag8 x.autoDip
    ++ u8 x.jetPulse

/-- The fields of a machine group, 0 to 4; none for another group number. -/
def MachineTable.groupBytes (m : MachineTable) (group : Byte) : Option (List Byte) :=
  if group = 0 then some m.geometry.bytes
  else if group = 1 then some m.measurement.bytes
  else if group = 2 then some m.actuators.bytes
  else if group = 3 then some (u16 m.beam.stopLead ++ u16 m.beam.overrunTolerance)
  else if group = 4 then some (u16 m.lockGap)
  else none

/-! ### Frames -/

/-- A result frame (Figure 10-2): the tag echoed, the status, the attention byte, the data, the check word. -/
def resultFrame (tag : Byte) (status : Status) (attention : Bool) (data : List Byte) : List Byte :=
  sealFrame ([0x4B#8, BitVec.ofNat 8 (data.length + 7), tag, status.code, BitVec.ofNat 8 (flagCode attention)] ++ data)

end Sys2Proof.Machine
end

