-- ==== Sys2Proof/Machine/Engine.lean ====
section
/-! DEFINITION. The Command Engine: the grant (R140), the checks in their order (R141), the result frame (R158) and
the lock (R142). Each command of a master is `serve` with its own work. -/

namespace Sys2Proof.Machine

/-- What a command's own checks and work leave: the state, the status, the data (none unless it completes OK,
CLAMPED, STARTED or LATE, R158), and whether the port loses the lock whatever its HOLD flag (R151). -/
structure Served where
  state : State
  status : Status
  data : List Byte
  dropLock : Bool
  deriving DecidableEq, Repr

/-- A refusal, or a SKIPPED or NONE outcome: no effect, no data (R158). -/
def Served.plain (s : State) (status : Status) : Served := ⟨s, status, [], false⟩

/-- A completion with data. -/
def Served.done (s : State) (status : Status) (data : List Byte) : Served := ⟨s, status, data, false⟩

/-- The next port in rotation (R140). -/
def nextPort : Port → Port
  | .p0 => .p1
  | .p1 => .p2
  | .p2 => .p3
  | .p3 => .p0

/-- Whether a lock of another port keeps a port's commands waiting (R140, R142). -/
def State.lockedOut (s : State) (p : Port) : Bool :=
  match s.arbiter.lock with
  | some holder => holder != p
  | none => false

/-- The grant of a port: it enters EXECUTING and the pointer moves to the port after it (R140). The lock gap timer,
which stopped when the holder's frame completed, does not run (R143). -/
def State.grant (s : State) (p : Port) : State :=
  let u := s.port p
  let t := s.setPort p { u with state := .executing, queued := [] }
  { t with arbiter := { t.arbiter with pointer := nextPort p, lockGap := none } }

/-- The result handed to the port, which enters REPLYING; the attention bit is taken once the command's effects have
been made (R138, R145, R158). -/
def State.reply (s : State) (p : Port) (tag : Byte) (status : Status) (data : List Byte) : State :=
  let u := s.port p
  s.setPort p { u with state := .replying, reply := some ⟨resultFrame tag status u.attention data, false⟩ }

/-- The lock as a command leaves it: with HOLD the port holds it, without HOLD it is released (R142). -/
def State.settleLock (s : State) (p : Port) (hold : Bool) : State :=
  { s with arbiter := { s.arbiter with lock := if hold then some p else none, lockGap := none } }

/-- The end of a granted command: the result frame, then the lock. -/
def answer (h : Hdr) (r : Served) : State :=
  (r.state.reply h.port h.tag r.status r.data).settleLock h.port (h.hold && !r.dropLock)

/-- A command placed in the queue while another port holds the lock: it waits QUEUED in its own port, as the frame it
came in, and is granted when the lock is released (R142). On a port in REPLYING it is an overlapping frame (R138); on
a port whose role is NONE it is discarded (R136). Log entry 10. -/
def State.offer (s : State) (p : Port) (frame : List Byte) : State :=
  if s.role p = .none then s
  else match (s.port p).state with
    | .idle => s.setPort p { s.port p with state := .queued, queued := frame }
    | .replying => s.postTo p .overlap
    | .receiving | .queued | .executing => s

/-- The engine's checks on a granted command, in the order of R141, before its own work. -/
def engine (h : Hdr) (kind : CmdKind) (work : State → Served) (g : State) : Served :=
  if !permitted (g.role h.port) kind then .plain g .notPermitted
  else if !g.guardHolds h.guard then .plain g .skipped
  else work g

/-- A master's command as one step: grant, checks, work, answer. During the start-up hold the ports take nothing
(R155); behind another port's lock it waits. -/
def serve (h : Hdr) (frame : List Byte) (checked : State → Served) (s : State) : State :=
  s.whenRunning fun s =>
    if s.hold.isSome then s
    else if s.lockedOut h.port then s.offer h.port frame
    else answer h (checked (s.grant h.port))

/-- The outcome of a master's command: its step always has a next state. -/
def run (h : Hdr) (frame : List Byte) (kind : CmdKind) (work : State → Served) (s : State) :
    Host.Outcome State Fault Refusal :=
  .next (serve h frame (engine h kind work) s)

end Sys2Proof.Machine
end

