-- ==== Sys2Proof/Machine/AddOn.lean ====
section
/-! DEFINITION. Chapter 3: the Add-On Calculator. Liquor pulses, the report registers and their ages, the pickup
windows, the lane add-on at a close and the combined add-on at a merge. -/

namespace Sys2Proof.Machine

/-! ### Liquor -/

/-- LIQUOR_PULSE: one is added to the pulse count of the box's open segment, which stays at 65,535; no effect on box B
without lane B (R44). -/
def liquorPulse (x : Box) (s : State) : State :=
  if s.laneExists x then
    s.setSegment x { s.segment x with
      pulses := if (s.segment x).pulses < Config.maxWord then (s.segment x).pulses + 1 else (s.segment x).pulses }
  else s

/-- LIQUOR_PULSE as a command. -/
def execLiquorPulse (x : Box) (s : State) : Host.Outcome State Fault Refusal := .next (s.whenRunning (liquorPulse x))

/-! ### Reports and their ages -/

/-- A box's state made STALE, its age timer stopped; INPUT_FAULT is posted unless the box's lane does not exist
(R47, R48, R63). -/
def State.makeStale (s : State) (x : Box) : State :=
  (s.setReport x { s.report x with state := .stale, age := none }).postIf (s.laneExists x) .inputFault

/-- AGE_TIMER_EXPIRY of a box: FRESH passes to STALE (R47). The timer runs only in FRESH. -/
def ageTimerExpiry (x : Box) (s : State) : State :=
  if (s.report x).state = .fresh then s.makeStale x else s

/-- AGE_TIMER_EXPIRY as a command. -/
def execAgeTimerExpiry (x : Box) (s : State) : Host.Outcome State Fault Refusal :=
  .next (s.whenRunning (ageTimerExpiry x))

/-- The test of R48 at a write of the age limit: a FRESH box whose timer has reached the new limit becomes STALE. -/
def State.retestAge (s : State) (x : Box) : State :=
  match (s.report x).state, (s.report x).age with
  | .fresh, some t => if s.measurement.ageLimit * Config.second ≤ t then s.makeStale x else s
  | .fresh, none | .stale, _ | .unknown, _ => s

/-- REPORT BOX (R46). -/
def reportBoxWork (box : Byte) (concentration density : Word) (s : State) : Served :=
  match s.existingBox box with
  | none => .plain s .range
  | some x =>
    let c := min concentration.toNat 300
    let d := clamp 900 1400 density.toNat
    .done (s.setReport x ⟨some c, some d, .fresh, some 0⟩)
      (if c = concentration.toNat ∧ d = density.toNat then .ok else .clamped) (u16 c ++ u16 d)

/-- REPORT_BOX as a command. -/
def execReportBox (h : Hdr) (box : Byte) (concentration density : Word) (s : State) :
    Host.Outcome State Fault Refusal :=
  run h (Instr.reportBox h box concentration density).frame .reportBox (reportBoxWork box concentration density) s

/-! ### The lane add-on at a close (R53) -/

/-- The liquor of a box's open segment in µL, at the liquor pulse weight of the close (R45). -/
def State.closeLiquor (s : State) (x : Box) : Nat := (s.segment x).pulses * s.measurement.liquorWeight.get x

/-- A liquor total entered into a box's pickup window, at the window size of the active style (R50). -/
def State.enterLiquor (s : State) (x : Box) (liquor : Nat) : State :=
  s.setWindow x (pushRing s.style.yarn.window (s.window x) liquor)

/-- The concentration field of a record: absent in UNKNOWN, the value held otherwise (R54). -/
def Report.usedConcentration (r : Report) : Option Nat := if r.state = .unknown then none else r.concentration

/-- The density field of a record (R54). -/
def Report.usedDensity (r : Report) : Option Nat := if r.state = .unknown then none else r.density

/-- Whether a window holds too few entries for an add-on: fewer than ceil(W ÷ 2) (R55, R56). -/
def windowShort (window : List Nat) (size : Nat) : Bool := decide (window.length < ceilDiv size 2)

/-- The add-on of R55: L × ρ × c × 5 over n × e × t, rounded half up, at most 9999. -/
def addOnFigure (window : List Nat) (density concentration ends tex : Nat) : Nat :=
  min (roundHalfUp (window.sum * density * concentration * 5) (window.length * ends * tex)) 9999

/-- The add-on of a close, present or absent, from the window with the close's liquor entered (R55, R56). -/
def State.laneAddOn (s : State) (x : Box) : Option Nat :=
  let ends := s.style.yarn.ends.get x
  let r := s.report x
  if ends = 0 ∨ windowShort (s.window x) s.style.yarn.window = true then none
  else
    match r.usedConcentration, r.usedDensity with
    | some c, some d => some (addOnFigure (s.window x) d c ends s.style.yarn.tex)
    | none, _ | some _, none => none

/-- The causes returned with a close: none for a box with no ends; else CONC_STALE in STALE, CONC_UNKNOWN in UNKNOWN,
WINDOW_SHORT for a short window (R54, R56). -/
def State.addOnCauses (s : State) (x : Box) : CauseSet :=
  if s.style.yarn.ends.get x = 0 then 0
  else causeIf ((s.report x).state == .stale) .concStale ||| causeIf ((s.report x).state == .unknown) .concUnknown
    ||| causeIf (windowShort (s.window x) s.style.yarn.window) .windowShort

/-! ### The combined add-on at a merge -/

/-- A contributing part: a lane record with ends of at least 1 (R57). -/
def contributing (part : Option LaneRecord) : List LaneRecord := (part.filter fun r => decide (1 ≤ r.ends)).toList

/-- The sum of add-on times ends over parts, absent as soon as one add-on is absent. -/
def weightedAddOn : List LaneRecord → Option Nat
  | [] => some 0
  | r :: rs =>
    match r.addOn, weightedAddOn rs with
    | some v, some t => some (v * r.ends + t)
    | none, _ | some _, none => none

/-- The combined add-on of a main record (R57). -/
def combinedAddOn (laneB : Bool) (outA outB : Option LaneRecord) : Option Nat :=
  if laneB = true ∧ (outA.isNone = true ∨ outB.isNone = true) then none
  else
    let parts := contributing outA ++ (if laneB then contributing outB else [])
    if parts = [] then none
    else (weightedAddOn parts).map fun t => roundHalfUp t (parts.map LaneRecord.ends).sum

/-- The cause of a value outside a band, either end inside (R58, R80). -/
def bandCause (band : Band) (low high : Cause) : Option Nat → CauseSet
  | some v => causeIf (decide (v < band.low)) low ||| causeIf (decide (band.high < v)) high
  | none => 0

/-! ### Starts -/

/-- A report register at a WARM start: FRESH or STALE becomes STALE, the age timer stops (R61). -/
def Report.warm (r : Report) : Report :=
  if r.state = .unknown then { r with age := none } else { r with state := .stale, age := none }

end Sys2Proof.Machine
end

