-- ==== Sys2Proof/Machine/Condition.lean ====
section
/-! DEFINITION. Chapter 4: the Condition Monitor. Crawl marking, the soak channels, the drying zones, the moisture
gauge, and what an announcement of LINE STATE does in this unit. -/

namespace Sys2Proof.Machine

/-! ### Leaving and entering STOPPED -/

/-- The dwell of a stop applied to the records of one zone (R74). -/
def State.applyDwell (s : State) (z : Zone) : State :=
  let acc := (s.monitor.zones.get z).accumulator
  if 0 < acc then s.addToZone z 0 acc else s

/-- The soak channel when LINE STATE leaves STOPPED: timer 0, mark clear, pending kept (R69). -/
def SoakChannel.leaveStop (c : SoakChannel) : SoakChannel := { c with timer := 0, crossed := false }

/-- A zone channel when LINE STATE leaves STOPPED: accumulator 0, mark clear (R74). -/
def ZoneChannel.leaveStop (c : ZoneChannel) : ZoneChannel := { c with accumulator := 0, crossed := false }

/-- The Monitor's work when LINE STATE leaves STOPPED: dwell applied, timers and marks cleared, the interval timer
stopped (R69, R74). -/
def State.monitorLeaveStop (s : State) : State :=
  let t := Zone.all.foldl State.applyDwell s
  { t with monitor := { t.monitor with
      interval := none
      soak := ⟨t.monitor.soak.a.leaveStop, t.monitor.soak.b.leaveStop⟩
      zones := t.monitor.zones.mapWith fun _ c => c.leaveStop } }

/-- CRAWL added to the open segment of each box in use (R65). -/
def State.markCrawl (s : State) : State :=
  (s.addCausesInUse .a Cause.crawl.set).addCausesInUse .b Cause.crawl.set

/-- The announcement of a change of LINE STATE to the Monitor (R65, R66, R69, R74). -/
def State.monitorAnnounce (s : State) (old new : LineState) : State :=
  let t := if old = .stopped ∧ new ≠ .stopped then s.monitorLeaveStop else s
  match new with
  | .crawl => t.markCrawl
  | .stopped => { t with monitor := { t.monitor with interval := some 0 } }
  | .run => t

/-! ### The 100 ms interval -/

/-- The segments an immersion length covers: ceil(length ÷ 200) (R67). -/
def immersionCount (length : Nat) : Nat := ceilDiv length Config.segmentLength

/-- One soak channel at an expiry of the interval timer: the advance of R66 and the crossing test of R67. -/
def State.advanceSoak (s : State) (x : Box) : State :=
  let c := s.soak x
  if s.inUse x && c.immersed && !c.crossed then
    if 10 * s.style.boxes.soakLimit ≤ c.timer + 1 then
      (s.setSoak x { c with
        timer := c.timer + 1
        crossed := true
        pending := max c.pending (immersionCount (s.geometry.immersion.get x)) }).post .soak
    else s.setSoak x { c with timer := c.timer + 1 }
  else s

/-- The state with one zone channel replaced. -/
def State.setZone (s : State) (z : Zone) (c : ZoneChannel) : State :=
  { s with monitor := { s.monitor with zones := s.monitor.zones.set z c } }

/-- One zone channel at an expiry of the interval timer: the advance of R72 and the crossing test of R73. -/
def State.advanceZone (s : State) (z : Zone) : State :=
  let c := s.monitor.zones.get z
  if (s.zoneRange z).isSome && c.heated then
    let acc := min (c.accumulator + 1) Config.maxWord
    if s.style.drying.dwellLimit ≤ acc ∧ c.crossed = false then
      ((s.setZone z { c with accumulator := acc, crossed := true }).addToZone z Cause.overdry.set 0).post .overdry
    else s.setZone z { c with accumulator := acc }
  else s

/-- INTERVAL_TIMER_EXPIRY: the soak channels, then the zone channels; the timer runs on. It expires only while
LINE STATE is STOPPED (R66, R72). -/
def intervalTimerExpiry (s : State) : State :=
  match s.monitor.interval with
  | none => s
  | some _ =>
    let t := { s with monitor := { s.monitor with interval := some 0 } }
    Zone.all.foldl State.advanceZone ((t.advanceSoak .a).advanceSoak .b)

/-- INTERVAL_TIMER_EXPIRY as a command. -/
def execIntervalTimerExpiry (s : State) : Host.Outcome State Fault Refusal := .next (s.whenRunning intervalTimerExpiry)

/-- The open segment of an existing lane opened at a boundary, after the soak question of R28 and R68: a box with soak
pending has it lowered by one and its new segment receives SOAK. -/
def State.openAtBoundary (s : State) (x : Box) : State :=
  let c := s.soak x
  if 0 < c.pending then (s.setSoak x { c with pending := c.pending - 1 }).openSegment x Cause.soak.set
  else s.openSegment x 0

/-! ### ZONE HEAT -/

/-- The code of a heat flag: HEATED 0, UNHEATED 1 (Figure 10-7). -/
def heatCode (heated : Bool) : Nat := if heated then 0 else 1

/-- ZONE HEAT (R71). -/
def zoneHeatWork (zone setting : Byte) (s : State) : Served :=
  match zoneOf zone, heatOf setting with
  | some z, some heated =>
    let c := s.monitor.zones.get z
    .done (s.setZone z { c with heated := heated }) .ok (u8 z.code ++ u8 (heatCode heated) ++ u16 c.accumulator)
  | none, _ | some _, none => .plain s .range

/-- ZONE_HEAT as a command. -/
def execZoneHeat (h : Hdr) (zone setting : Byte) (s : State) : Host.Outcome State Fault Refusal :=
  run h (Instr.zoneHeat h zone setting).frame .zoneHeat (zoneHeatWork zone setting) s

/-! ### The moisture gauge -/

/-- The regain of a loop current, absent for a fault sample (R78). -/
def regainOf (span current : Nat) : Option Nat :=
  if current < 360 ∨ 2080 < current then none
  else some (min (roundHalfUp ((current - 400) * span) 1600) span)

/-- GAUGE_SAMPLE: the gauge state moves as the table of R79 gives; entering FAULT posts INPUT_FAULT. -/
def gaugeSample (current : Nat) (s : State) : State :=
  match regainOf s.measurement.gaugeSpan current with
  | some v => { s with monitor := { s.monitor with gauge := .valid, regain := some v, sampleTimer := 0 } }
  | none =>
    ({ s with monitor := { s.monitor with gauge := .fault, regain := none, sampleTimer := 0 } }).postIf
      (s.monitor.gauge != GaugeState.fault) .inputFault

/-- GAUGE_SAMPLE as a command. -/
def execGaugeSample (current : Nat) (s : State) : Host.Outcome State Fault Refusal :=
  .next (s.whenRunning (gaugeSample current))

/-- A main record stamped at the gauge, with MOIST_LOW or MOIST_HIGH where its moisture lies outside the band of its
style (R32, R80). -/
def State.stampMoisture (s : State) (r : MainRecord) : MainRecord :=
  if s.monitor.gauge = .valid then
    { r with
      moisture := s.monitor.regain
      causes := r.causes ||| bandCause (s.settings.styles.get r.style).bands.moisture .moistLow .moistHigh
        s.monitor.regain }
  else r

end Sys2Proof.Machine
end

