-- ==== Sys2Proof/Machine/BoxControl.lean ====
section
/-! DEFINITION. Chapter 5: the Box Control Unit. Squeeze pressure, roll motion and depth, master moves and homes,
automatic lift and lower, the field reset. -/

namespace Sys2Proof.Machine

/-! ### Squeeze pressure -/

/-- The pressure between two neighbouring curve points, rounded to the nearest kPa with an exact half going to the
larger pressure (R85). -/
def interpolate (lo hi : CurvePoint) (speed : Nat) : Nat :=
  if lo.pressure ≤ hi.pressure then
    lo.pressure + roundHalfUp ((hi.pressure - lo.pressure) * (speed - lo.speed)) (hi.speed - lo.speed)
  else
    lo.pressure - roundHalfDown ((lo.pressure - hi.pressure) * (speed - lo.speed)) (hi.speed - lo.speed)

/-- A curve's pressure at a speed (R85). -/
def curvePressure : List CurvePoint → Nat → Nat
  | [], _ => 0
  | [p], _ => p.pressure
  | p :: q :: rest, speed =>
    if speed ≤ p.speed then p.pressure
    else if speed < q.speed then interpolate p q speed
    else curvePressure (q :: rest) speed

/-- The target of a pressure channel from the conditions standing (R84). -/
def State.pressureTarget (s : State) (x : Box) : Nat :=
  min s.actuators.pressureLimit
    (if s.inUse x = false then 0
     else if s.line.lineState = .stopped then s.style.boxes.standstill.get x
     else curvePressure (s.style.curve.get x) s.line.speed)

/-- A commanded pressure one ramp interval later (R86). -/
def rampToward (rate commanded target : Nat) : Nat :=
  if commanded < target then min (commanded + rate) target
  else if target < commanded then max (commanded - rate) target
  else commanded

/-- A pressure channel at a ramp expiry (R84, R86). -/
def State.rampChannel (s : State) (x : Box) : PressureChannel :=
  ⟨s.pressureTarget x, rampToward s.actuators.rampRate (s.boxes.pressure.get x).commanded (s.pressureTarget x)⟩

/-- RAMP_TIMER_EXPIRY: both channels; the timer runs on (R84, R86). -/
def rampTimerExpiry (s : State) : State :=
  { s with boxes := { s.boxes with pressure := ⟨s.rampChannel .a, s.rampChannel .b⟩, rampTimer := 0 } }

/-- RAMP_TIMER_EXPIRY as a command. -/
def execRampTimerExpiry (s : State) : Host.Outcome State Fault Refusal := .next (s.whenRunning rampTimerExpiry)

/-- A pressure channel after a write of the pressure limit: values above it are set to it (R87). -/
def PressureChannel.limit (c : PressureChannel) (limit : Nat) : PressureChannel :=
  ⟨min c.target limit, min c.commanded limit⟩

/-! ### Depth -/

/-- Whether a roll in a state is referenced: it is not in UNREF_IDLE or HOMING (R91, R93). -/
def RollState.referenced : RollState → Bool
  | .unrefIdle | .homing _ _ => false
  | .idle | .moving _ _ | .autoLift | .autoLower _ => true

/-- Whether a roll moves: MOVING, HOMING, AUTO_LIFT or AUTO_LOWER (R88). -/
def RollState.inMotion : RollState → Bool
  | .unrefIdle | .idle => false
  | .moving _ _ | .homing _ _ | .autoLift | .autoLower _ => true

/-- Whether a position lies below the dip depth less 10 (R89). -/
def belowDepth (position dip : Nat) : Bool := decide (position + Config.depthTolerance < dip)

/-- The depth condition a roll's state, position and dip depth give (R89). -/
def depthOf (state : RollState) (position dip : Nat) : DepthCondition :=
  if state.referenced then (if belowDepth position dip then .out else .atDepth) else .unknown

/-- A box's dip depth in the active style. -/
def State.dip (s : State) (x : Box) : Nat := s.style.boxes.dip.get x

/-- The cause a depth condition raises when it is entered (R90). -/
def depthCause : DepthCondition → CauseSet
  | .atDepth => 0
  | .out => Cause.lift.set
  | .unknown => Cause.depthUnknown.set

/-- The depth condition evaluated anew: on a change the immersion flag follows and LIFT or DEPTH_UNKNOWN is raised on
the open segment of a box in use (R66, R89, R90), in use by the style then active (log entry 23). -/
def State.settleDepth (s : State) (x : Box) : State :=
  let r := s.roll x
  let d := depthOf r.state r.position (s.dip x)
  if d = r.depth then s
  else
    let t := s.setRoll x { r with depth := d }
    (t.setSoak x { t.soak x with immersed := d != .out }).addCausesInUse x (depthCause d)

/-- Both depth conditions evaluated anew. -/
def State.settleDepths (s : State) : State := (s.settleDepth .a).settleDepth .b

/-! ### Motion -/

/-- A position one step toward a target (R88). -/
def stepToward (position target : Nat) : Nat :=
  if position < target then position + 1 else if target < position then position - 1 else position

/-- A roll entering a state with its step periods afresh (R88). -/
def State.enterRoll (s : State) (x : Box) (state : RollState) : State :=
  s.setRoll x { s.roll x with state := state, stepPhase := 0 }

/-- The flag that calls the originating port of a box's move (R95). -/
def doneFlag : Box → Flag
  | .a => .rollADone
  | .b => .rollBDone

/-- The end of a master move or home: its completion record, and its flag to the originating port alone (R95). -/
def State.complete (s : State) (x : Box) (c : Completion) : State :=
  (s.setRoll x { s.roll x with slot := some c }).postTo c.port (doneFlag x)

/-- A step toward a target in MOVING or AUTO_LOWER or AUTO_LIFT: `onward` is the state while the target is not
reached. -/
def State.moveStep (s : State) (x : Box) (target : Nat) (onward : RollState) : State :=
  let r := s.roll x
  let p := stepToward r.position target
  (s.setRoll x { r with
    position := p
    state := if p = target then .idle else onward
    stepPhase := r.stepPhase - Config.second }).settleDepth x

/-- ROLL_STEP: a step event of a moving roll (R88, R92, R94, R98). A roll that stands gives no steps. -/
def rollStep (x : Box) (s : State) : State :=
  let r := s.roll x
  match r.state with
  | .unrefIdle | .idle => s
  | .moving target f =>
    let t := s.moveStep x target (.moving target f)
    if stepToward r.position target = target then t.complete x ⟨.move, .done, f.start, some target, f.port⟩ else t
  | .homing n f =>
    if s.actuators.travel + Config.homeMargin ≤ n + 1 then
      (((s.enterRoll x .unrefIdle).settleDepth x).complete x ⟨.home, .homeFail, f.start, none, f.port⟩).post .rollUnref
    else
      (s.setRoll x { r with state := .homing (n + 1) f, stepPhase := r.stepPhase - Config.second }).settleDepth x
  | .autoLift => s.moveStep x 0 .autoLift
  | .autoLower target => s.moveStep x target (.autoLower target)

/-- ROLL_STEP as a command. -/
def execRollStep (x : Box) (s : State) : Host.Outcome State Fault Refusal := .next (s.whenRunning (rollStep x))

/-! ### Master moves and homes -/

/-- A home that has seen the switch: position 0, referenced, IDLE, DONE with end position 0 (R94). -/
def State.homeDone (s : State) (x : Box) (f : Flight) : State :=
  ((s.setRoll x { s.roll x with position := 0, state := .idle, stepPhase := 0 }).settleDepth x).complete x
    ⟨.home, .done, f.start, some 0, f.port⟩

/-- The level of a box's HOME SWITCH input noted. -/
def State.noteSwitch (s : State) (x : Box) (level : Bool) : State :=
  { s with boxes := { s.boxes with homeSwitch := s.boxes.homeSwitch.set x level } }

/-- HOME_SWITCH_ACTIVE: the switch takes a level; becoming active in HOMING ends the home, and in any other state it is
not acted on (R94; log entry 6). -/
def homeSwitchActive (x : Box) (level : Bool) (s : State) : State :=
  let t := s.noteSwitch x level
  match (t.roll x).state with
  | .homing _ f => if level then t.homeDone x f else t
  | .unrefIdle | .idle | .moving _ _ | .autoLift | .autoLower _ => t

/-- HOME_SWITCH_ACTIVE as a command: on a held card the pin's level is noted and nothing is acted on (log entry 6). -/
def execHomeSwitchActive (x : Box) (level : Bool) (s : State) : Host.Outcome State Fault Refusal :=
  .next (if s.power = .running then homeSwitchActive x level s else s.noteSwitch x level)

/-- The position a MOVE ROLL asks for, before it is clamped to the travel: unsigned in ABSOLUTE, signed in RELATIVE
mode (R91). -/
def wantedPosition (mode : MoveMode) (position : Nat) (value : Word) : Int :=
  match mode with
  | .absolute => value.toNat
  | .relative => position + value.toInt

/-- The target of a MOVE ROLL: below 0 it becomes 0, above the travel it becomes the travel (R91). -/
def moveTarget (wanted : Int) (travel : Nat) : Nat := min wanted.toNat travel

/-- An accepted move: at the target already it ends at once, DONE; otherwise the roll enters MOVING, the window being
emptied first if the move takes the roll out of depth (R91, R92). -/
def State.startMove (s : State) (x : Box) (port : Port) (target : Nat) : State :=
  let r := s.roll x
  if target = r.position then s.complete x ⟨.move, .done, r.position, some target, port⟩
  else
    let t := if r.depth = .atDepth ∧ belowDepth target (s.dip x) = true then s.emptyWindow x else s
    t.enterRoll x (.moving target ⟨port, r.position⟩)

/-- MOVE ROLL: the checks of R91 in their order, then the move. -/
def moveRollWork (port : Port) (box mode : Byte) (value : Word) (s : State) : Served :=
  match s.existingBox box, moveModeOf mode with
  | some x, some m =>
    let r := s.roll x
    if s.boxes.fieldReset.isSome then .plain s .busy
    else if r.state.inMotion then .plain s .busy
    else if !r.state.referenced then .plain s .unreferenced
    else if r.slot.isSome then .plain s .pending
    else
      let wanted := wantedPosition m r.position value
      let target := moveTarget wanted s.actuators.travel
      .done (s.startMove x port target) (if (target : Int) = wanted then .started else .clamped) (u16 target)
  | none, _ | some _, none => .plain s .range

/-- MOVE_ROLL as a command. -/
def execMoveRoll (h : Hdr) (box mode : Byte) (value : Word) (s : State) : Host.Outcome State Fault Refusal :=
  run h (Instr.moveRoll h box mode value).frame .moveRoll (moveRollWork h.port box mode value) s

/-- An accepted home: with the switch active it ends at once; otherwise the roll becomes unreferenced and enters
HOMING, the window being emptied first unless the home starts OUT or from a dip depth home already meets (R93). -/
def State.startHome (s : State) (x : Box) (port : Port) : State :=
  let r := s.roll x
  if s.boxes.homeSwitch.get x then s.homeDone x ⟨port, r.position⟩
  else
    let t := if r.depth ≠ .out ∧ belowDepth 0 (s.dip x) = true then s.emptyWindow x else s
    (t.enterRoll x (.homing 0 ⟨port, r.position⟩)).settleDepth x

/-- HOME ROLL: the checks of R93 in their order, then the home. -/
def homeRollWork (port : Port) (box : Byte) (s : State) : Served :=
  match s.existingBox box with
  | none => .plain s .range
  | some x =>
    if s.boxes.fieldReset.isSome then .plain s .busy
    else if (s.roll x).state.inMotion then .plain s .busy
    else if (s.roll x).slot.isSome then .plain s .pending
    else .done (s.startHome x port) .started []

/-- HOME_ROLL as a command. -/
def execHomeRoll (h : Hdr) (box : Byte) (s : State) : Host.Outcome State Fault Refusal :=
  run h (Instr.homeRoll h box).frame .homeRoll (homeRollWork h.port box) s

/-- COLLECT: the completion record is returned and the slot emptied; NONE for an empty slot (R96). -/
def collectWork (box : Byte) (s : State) : Served :=
  match s.existingBox box with
  | none => .plain s .range
  | some x =>
    match (s.roll x).slot with
    | none => .plain s .none
    | some c => .done (s.setRoll x { s.roll x with slot := none }) .ok c.bytes

/-- COLLECT as a command. -/
def execCollect (h : Hdr) (box : Byte) (s : State) : Host.Outcome State Fault Refusal :=
  run h (Instr.collect h box).frame .collect (collectWork box) s

/-! ### Automatic lift and lower -/

/-- One roll channel at the auto-lift expiry (the table of R97). -/
def State.autoLiftRoll (s : State) (x : Box) : State :=
  let r := s.roll x
  if s.laneExists x && decide (0 < r.position) then
    match r.state with
    | .idle | .autoLower _ => (s.emptyWindow x).enterRoll x .autoLift
    | .moving _ f =>
      ((s.emptyWindow x).complete x ⟨.move, .preempted, f.start, some r.position, f.port⟩).enterRoll x .autoLift
    | .autoLift | .unrefIdle | .homing _ _ => s
  else s

/-- AUTO_LIFT_EXPIRY: the timer stops and each existing roll is acted on (R97). The timer runs only in a stop. -/
def autoLiftExpiry (s : State) : State :=
  match s.boxes.autoLift with
  | none => s
  | some _ => (({ s with boxes := { s.boxes with autoLift := none } }).autoLiftRoll .a).autoLiftRoll .b

/-- AUTO_LIFT_EXPIRY as a command. -/
def execAutoLiftExpiry (s : State) : Host.Outcome State Fault Refusal := .next (s.whenRunning autoLiftExpiry)

/-- The motion target of a lower: the dip depth, or the travel when the dip depth exceeds it (R99). -/
def State.lowerTarget (s : State) (x : Box) : Nat := min (s.dip x) s.actuators.travel

/-- One roll channel when LINE STATE leaves STOPPED with the auto-dip option set (R99). -/
def State.autoLowerRoll (s : State) (x : Box) : State :=
  let r := s.roll x
  if s.inUse x then
    match r.state with
    | .idle => if belowDepth r.position (s.dip x) then s.enterRoll x (.autoLower (s.lowerTarget x)) else s
    | .autoLift => s.enterRoll x (.autoLower (s.lowerTarget x))
    | .unrefIdle | .moving _ _ | .homing _ _ | .autoLower _ => s
  else s

/-- The auto-lift timer as a STOPPED announcement starts it: with a delay of 0 it does not run (R97). -/
def State.autoLiftStart (s : State) : Option Timer :=
  if 0 < s.actuators.autoLiftDelay then some ⟨0, s.actuators.autoLiftDelay * Config.second⟩ else none

/-- The announcement of a change of LINE STATE to the Box Control Unit (R97, R99). -/
def State.boxesAnnounce (s : State) (old new : LineState) : State :=
  if new = .stopped then { s with boxes := { s.boxes with autoLift := s.autoLiftStart } }
  else if old = .stopped then
    let t := { s with boxes := { s.boxes with autoLift := none } }
    if t.actuators.autoDip then (t.autoLowerRoll .a).autoLowerRoll .b else t
  else s

/-! ### The field reset -/

/-- The master move or home a roll state holds, ended FIELD_RESET: kind, start, end position, port (R101). -/
def RollState.resetRecord (state : RollState) (position : Nat) : Option Completion :=
  match state with
  | .moving _ f => some ⟨.move, .fieldReset, f.start, some position, f.port⟩
  | .homing _ f => some ⟨.home, .fieldReset, f.start, none, f.port⟩
  | .unrefIdle | .idle | .autoLift | .autoLower _ => none

/-- One existing roll channel at the start of the field reset period (R101, steps 1 to 4). -/
def State.resetRoll (s : State) (x : Box) : State :=
  if s.laneExists x then
    let r := s.roll x
    let ended := match r.state.resetRecord r.position with
      | some c => s.complete x c
      | none => s
    (ended.enterRoll x .unrefIdle).settleDepth x
  else s

/-- RESET FIELD (R100, R101): while the period runs it is refused BUSY; otherwise FIELD RESET becomes active, the jets
stop (R108), the rolls become unreferenced and ROLL_UNREF is posted to every port once. -/
def resetFieldWork (s : State) : Served :=
  if s.boxes.fieldReset.isSome then .plain s .busy
  else
    let t := { s with
      boxes := { s.boxes with fieldReset := some Config.fieldResetPeriod }
      beams := { s.beams with cutJet := none, faultJet := none } }
    .done (((t.resetRoll .a).resetRoll .b).post .rollUnref) .ok []

/-- RESET_FIELD as a command. -/
def execResetField (h : Hdr) (s : State) : Host.Outcome State Fault Refusal :=
  run h (Instr.resetField h).frame .resetField resetFieldWork s

/-- FIELD_RESET_EXPIRY: the output becomes inactive and roll commands are taken again (R100). -/
def fieldResetExpiry (s : State) : State := { s with boxes := { s.boxes with fieldReset := none } }

/-- FIELD_RESET_EXPIRY as a command. -/
def execFieldResetExpiry (s : State) : Host.Outcome State Fault Refusal := .next (s.whenRunning fieldResetExpiry)

/-! ### Effects of a machine table write (R102) -/

/-- A referenced roll whose position exceeds the travel becomes unreferenced, in UNREF_IDLE (R102). -/
def State.checkTravel (s : State) (x : Box) : State :=
  let r := s.roll x
  if r.state.referenced && decide (s.actuators.travel < r.position) then
    (s.enterRoll x .unrefIdle).settleDepth x
  else s

/-- Whether a roll is referenced beyond the travel. -/
def State.beyondTravel (s : State) (x : Box) : Bool :=
  (s.roll x).state.referenced && decide (s.actuators.travel < (s.roll x).position)

end Sys2Proof.Machine
end

