-- ==== Sys2Proof/Machine/Beam.lean ====
section
/-! DEFINITION. Chapter 6: the Beam Unit. Winding and its compares, the marker jets, deliveries and the fault map,
doffing, the completed store and the set plan. The style changes of chapter 7 that a doff makes are here too
(R132, R133). -/

namespace Sys2Proof.Machine

/-! ### State and outputs -/

/-- SLOW REQUEST (R105). -/
def State.slowRequest (s : State) : Bool :=
  match s.beams.current with
  | some o => o.phase != .opened
  | none => false

/-- STOP REQUEST (R105). -/
def State.stopRequest (s : State) : Bool :=
  match s.beams.current with
  | some o => o.phase == .stopping
  | none => false

/-- The state with the current beam replaced. -/
def State.setBeam (s : State) (o : Option OpenBeam) : State := { s with beams := { s.beams with current := o } }

/-- An open beam with its record replaced. -/
def OpenBeam.withRecord (o : OpenBeam) (r : BeamRecord) : OpenBeam := { o with record := r }

/-- The marker lead: (main depth − m) × 200 + fine offset (R19). -/
def Geometry.markerLead (g : Geometry) : Nat := (g.depthMain - g.marker) * Config.segmentLength + g.fine

/-! ### Jets (R108) -/

/-- The jet pulse time as it stands, in microseconds. -/
def State.jetTime (s : State) : Nat := s.actuators.jetPulse * Config.millisecond

/-- Whether the field reset period runs. -/
def State.fieldResetRuns (s : State) : Bool := s.boxes.fieldReset.isSome

/-- CUT JET fired: active, its timer at the full pulse time. -/
def State.fireCut (s : State) : State := { s with beams := { s.beams with cutJet := some s.jetTime } }

/-- FAULT JET fired; while the field reset period runs the fire is lost (R108). -/
def State.fireFault (s : State) : State :=
  if s.fieldResetRuns then s else { s with beams := { s.beams with faultJet := some s.jetTime } }

/-- JET_TIMER_EXPIRY: the jet becomes inactive (R108). -/
def jetTimerExpiry (jet : Jet) (s : State) : State :=
  match jet with
  | .cut => { s with beams := { s.beams with cutJet := none } }
  | .fault => { s with beams := { s.beams with faultJet := none } }

/-- JET_TIMER_EXPIRY as a command. -/
def execJetTimerExpiry (jet : Jet) (s : State) : Host.Outcome State Fault Refusal :=
  .next (s.whenRunning (jetTimerExpiry jet))

/-! ### A millimetre on an open beam (R106) -/

/-- The three compares of a beam (R110). -/
def comparesFor (target slowDistance : Nat) (b : BeamSettings) : Compares where
  slow := min (target - slowDistance * 1000) (target - b.stopLead)
  stop := target - b.stopLead
  overrun := target + b.overrunTolerance

/-- The compares a target gives with the active style and the machine table as they stand (R110). -/
def State.compares (s : State) (target : Nat) : Compares :=
  comparesFor target s.style.drying.slowDistance s.settings.machine.beam

/-- Whether the next cut mark has fallen due: the wound length has reached n × C − λ (R107). -/
def BeamRecord.cutFallsDue (r : BeamRecord) (lead : Nat) : Bool := decide ((r.cutsDue + 1) * r.cutLength ≤ r.wound + lead)

/-- Step 2 of R106: a cut mark falling due fires CUT JET, or is counted suppressed while the field reset period runs
(R107). -/
def State.testCut (s : State) (o : OpenBeam) : State :=
  if o.record.cutFallsDue s.geometry.markerLead then
    if s.fieldResetRuns then
      s.setBeam (some (o.withRecord { o.record with
        cutsDue := o.record.cutsDue + 1, cutsSuppressed := o.record.cutsSuppressed + 1 }))
    else (s.setBeam (some (o.withRecord { o.record with cutsDue := o.record.cutsDue + 1 }))).fireCut
  else s.setBeam (some o)

/-- The phase after a wound length is compared, and whether each point is newly passed (R110). -/
def nextPhase (phase : BeamPhase) (c : Compares) (wound : Nat) : BeamPhase :=
  match phase with
  | .opened => if c.slow ≤ wound then (if c.stop ≤ wound then .stopping else .slowing) else .opened
  | .slowing => if c.stop ≤ wound then .stopping else .slowing
  | .stopping => .stopping

/-- SLOW_POINT and STOP_POINT posted for each point a new phase has passed and the old one had not (R110, R112). -/
def State.postPoints (s : State) (old new : BeamPhase) : State :=
  (s.postIf (old == .opened && new != .opened) .slowPoint).postIf (old != .stopping && new == .stopping) .stopPoint

/-- Step 3 of R106: the slow and stop compares (R110). -/
def State.testPoints (s : State) : State :=
  match s.beams.current with
  | none => s
  | some o =>
    let p := nextPhase o.phase o.compares o.record.wound
    (s.setBeam (some { o with phase := p })).postPoints o.phase p

/-- Step 4 of R106: the overrun compare (R111). -/
def State.testOverrun (s : State) : State :=
  match s.beams.current with
  | none => s
  | some o =>
    if o.compares.overrun < o.record.wound ∧ o.record.overrun = false then
      (s.setBeam (some (o.withRecord { o.record with overrun := true }))).post .overrun
    else s

/-- A millimetre handed on by the Length Counter Unit (R105, R106). -/
def State.woundMillimetre (s : State) : State :=
  match s.beams.current with
  | none => s
  | some o =>
    if o.record.wound < Config.maxLong then
      ((s.testCut (o.withRecord { o.record with wound := o.record.wound + 1 })).testPoints).testOverrun
    else s

/-- An announcement of STOPPED while a beam is open adds one to its stops (R113). -/
def State.beamAnnounce (s : State) (new : LineState) : State :=
  match s.beams.current, new with
  | some o, .stopped =>
    s.setBeam (some (o.withRecord { o.record with stops := min (o.record.stops + 1) Config.maxWord }))
  | some _, .crawl | some _, .run | none, _ => s

/-! ### The marker arrival (R109) -/

/-- Whether a slot holds a record whose causes meet a mask. -/
def slotMeets (mask : CauseSet) : Option MainRecord → Bool
  | some r => shares r.causes mask
  | none => false

/-- FAULT JET fires when the record now at the marker meets the ink mask and the slot it replaced does not (R109). -/
def State.markerArrival (s : State) (now replaced : Option MainRecord) : State :=
  if slotMeets s.style.masks.ink now && !slotMeets s.style.masks.ink replaced then s.fireFault else s

/-! ### Delivery (R114, R115) -/

/-- A figure taken into statistics, when present (R114). -/
def Stats.take (t : Stats) : Option Nat → Stats
  | none => t
  | some v => {
      count := t.count + 1
      sum := t.sum + v
      minimum := some (match t.minimum with | some m => min m v | none => v)
      maximum := some (match t.maximum with | some m => max m v | none => v) }

/-- The causes a delivered slot is taken with: UNTRACKED for an untracked slot (R114). -/
def deliveredCauses : Option MainRecord → CauseSet
  | some r => r.causes
  | none => Cause.untracked.set

/-- The start of a delivered slot's span: the larger of 0 and the wound length less 200 (R114). -/
def spanStart (wound : Nat) : Nat := wound - Config.segmentLength

/-- The beam record's statistics, lengths and cause union updated by a delivered slot (R114). -/
def BeamRecord.deliver (r : BeamRecord) (slot : Option MainRecord) : BeamRecord :=
  match slot with
  | none => { r with
      untracked := r.untracked + (r.wound - spanStart r.wound)
      causes := r.causes ||| Cause.untracked.set }
  | some m => { r with
      tracked := r.tracked + 1
      causes := r.causes ||| m.causes
      addOn := r.addOn.take m.addOn
      moisture := r.moisture.take m.moisture }

/-- Whether a span of a start goes to the last range: its end is at least the start less the merge gap (R115). -/
def FaultRange.reaches (r : FaultRange) (start gap : Nat) : Bool := decide (start ≤ r.finish + gap)

/-- A span's causes placed in the fault range list; the answer says whether a range was appended (R115). -/
def placeSpan (ranges : List FaultRange) (start finish gap : Nat) (causes : CauseSet) : List FaultRange × Bool :=
  match ranges.getLast? with
  | none => ([⟨start, finish, causes, false⟩], true)
  | some last =>
    if last.reaches start gap then
      (ranges.dropLast ++ [{ last with finish := finish, causes := last.causes ||| causes }], false)
    else if ranges.length < Config.maxRanges then (ranges ++ [⟨start, finish, causes, false⟩], true)
    else
      (ranges.dropLast ++ [{ last with finish := finish, causes := last.causes ||| causes, absorbed := true }], false)

/-- Step 7 of the boundary: the delivered slot applied to the beam being wound (R34, R114, R115). -/
def State.deliver (s : State) (slot : Option MainRecord) : State :=
  match s.beams.current with
  | none => s
  | some o =>
    if o.record.wound < Config.maxLong then
      let r := o.record.deliver slot
      let mask := s.style.masks.beamFault
      if shares (deliveredCauses slot) mask then
        let placed := placeSpan r.ranges (spanStart r.wound) r.wound s.style.drying.mergeGap
          (deliveredCauses slot &&& mask)
        (s.setBeam (some (o.withRecord { r with ranges := placed.1 }))).postIf placed.2 .faultRange
      else s.setBeam (some (o.withRecord r))
    else s

/-! ### Changes of the active style (R132, R133) -/

/-- Whether a style set names ends for a box B that does not exist (R131, R132). -/
def State.lacksBoxB (s : State) (i : StyleIndex) : Bool :=
  !s.laneBExists && decide (1 ≤ (s.settings.styles.get i).yarn.ends.b)

/-- A change of the active index: both windows emptied, both depth conditions evaluated anew (R133). DESIGN CHOICE: where
a condition changes at the switch, the cause is judged by the ends of the new style, also for a box that the same switch
brings into or takes out of use (log entry 23). -/
def State.switchStyle (s : State) (i : StyleIndex) : State :=
  let t := { s with settings := { s.settings with active := i } }
  t.emptyWindows.settleDepths

/-- The pending style applied at a doff: discarded where lane B is lacking, made active otherwise (R132). -/
def State.applyPending (s : State) : State :=
  match s.pendingStyle with
  | none => s
  | some i =>
    let t := { s with pendingStyle := none }
    if s.lacksBoxB i then t else t.switchStyle i

/-! ### Doffing -/

/-- A closed record placed in the completed store, the oldest leaving a full store first (R119). -/
def storeBeam (store : List BeamRecord) (r : BeamRecord) : List BeamRecord := pushRing Config.maxStore store r

/-- The current beam closed: its reason set, the record stored, the state IDLE, BEAM_CLOSED posted (R117, R118). -/
def State.closeBeam (s : State) (o : OpenBeam) (reason : CloseReason) : State :=
  ({ s with beams := { s.beams with
      current := none
      store := storeBeam s.beams.store { o.record with closeReason := some reason } } }).post .beamClosed

/-- Statistics with nothing taken. -/
def Stats.empty : Stats := ⟨0, 0, none, none⟩

/-- A beam record as it is opened (R117, step 4). -/
def BeamRecord.fresh (number target cutLength : Nat) (unplanned : Bool) (style : StyleIndex) : BeamRecord where
  number := number
  style := style
  target := target
  cutLength := cutLength
  wound := 0
  cutsDue := 0
  cutsSuppressed := 0
  tracked := 0
  untracked := 0
  addOn := .empty
  moisture := .empty
  stops := 0
  causes := 0
  unplanned := unplanned
  retained := false
  overrun := false
  closeReason := none
  ranges := []

/-- The number of an unplanned beam: one more than the last, 65,535 followed by 1 (R117). -/
def nextBeamNumber (n : Nat) : Nat := if n < 65535 then n + 1 else 1

/-- A new beam opened, in OPEN, with the compares of its target (R117, step 4). -/
def State.openBeam (s : State) (r : BeamRecord) : State := s.setBeam (some ⟨.opened, r, s.compares r.target⟩)

/-- The data of a DOFF: number, target in m, cut length in 100 mm, UNPLANNED (Figure 10-10). -/
def doffData (r : BeamRecord) : List Byte :=
  u16 r.number ++ u16 (r.target / 1000) ++ u16 (r.cutLength / 100) ++ flag8 r.unplanned

/-- The record of the beam a doff opens: the plan head's, or an unplanned one after the closed beam; absent when there
is neither (R117, step 3). -/
def nextBeam (plan : List PlanEntry) (closed : Option BeamRecord) (style : StyleIndex) : Option BeamRecord :=
  match plan, closed with
  | e :: _, _ => some (.fresh e.number (e.target * 1000) (e.cut * 100) false style)
  | [], some r => some (.fresh (nextBeamNumber r.number) r.target r.cutLength true style)
  | [], none => none

/-- DOFF: the checks of R116 in their order, then the work of R117. -/
def doffWork (s : State) : Served :=
  if s.line.lineState ≠ .stopped then .plain s .notStopped
  else if s.beams.current.any fun o => o.record.wound == 0 then .plain s .emptyBeam
  else if s.beams.current.isNone ∧ s.beams.plan = [] then .plain s .planEmpty
  else
    let closed := match s.beams.current with
      | some o => s.closeBeam o .doff
      | none => s
    let styled := closed.applyPending
    match nextBeam styled.beams.plan (s.beams.current.map OpenBeam.record) styled.settings.active with
    | none => .plain s .planEmpty
    | some r =>
      let planned := { styled with beams := { styled.beams with plan := styled.beams.plan.drop 1 } }
      .done ((planned.openBeam r).postIf (decide (planned.beams.plan.length ≤ 1)) .planLow) .ok (doffData r)

/-- DOFF as a command. -/
def execDoff (h : Hdr) (s : State) : Host.Outcome State Fault Refusal := run h (Instr.doff h).frame .doff doffWork s

/-- CLOSE SET (R118). -/
def closeSetWork (s : State) : Served :=
  if s.line.lineState ≠ .stopped then .plain s .notStopped
  else match s.beams.current with
    | none => .plain s .none
    | some o => .done (s.closeBeam o .closeSet) .ok []

/-- CLOSE_SET as a command. -/
def execCloseSet (h : Hdr) (s : State) : Host.Outcome State Fault Refusal :=
  run h (Instr.closeSet h).frame .closeSet closeSetWork s

/-- The phase a wound length gives outright, whatever went before (R112, step 3). -/
def phaseFor (c : Compares) (wound : Nat) : BeamPhase :=
  if c.stop ≤ wound then .stopping else if c.slow ≤ wound then .slowing else .opened

/-- SET TARGET (R112). -/
def setTargetWork (metres : Word) (s : State) : Served :=
  if metres.toNat < 100 ∨ 60000 < metres.toNat then .plain s .range
  else match s.beams.current with
    | none => .plain s .none
    | some o =>
      let target := metres.toNat * 1000
      let c := s.compares target
      let p := phaseFor c o.record.wound
      .done ((s.setBeam (some ⟨p, { o.record with target := target }, c⟩)).postPoints o.phase p)
        (if p = .stopping then .late else .ok)
        (u8 (beamStateCode (some p)) ++ u32 c.slow ++ u32 c.stop ++ u32 c.overrun)

/-- SET_TARGET as a command. -/
def execSetTarget (h : Hdr) (metres : Word) (s : State) : Host.Outcome State Fault Refusal :=
  run h (Instr.setTarget h metres).frame .setTarget (setTargetWork metres) s

/-! ### Store and plan -/

/-- The place of an age in a store kept oldest first: age 0 is the newest (R119). -/
def agePlace (held age : Nat) : Nat := held - 1 - age

/-- The stored record of an age, absent at or beyond the number held (R119). -/
def storedOf (store : List BeamRecord) (age : Nat) : Option BeamRecord :=
  if age < store.length then store[agePlace store.length age]? else none

/-- RELEASE BEAM (R120). -/
def releaseBeamWork (age : Byte) (s : State) : Served :=
  if 3 < age.toNat then .plain s .range
  else match storedOf s.beams.store age.toNat with
    | none => .plain s .none
    | some r =>
      .done { s with beams := { s.beams with
        store := s.beams.store.eraseIdx (agePlace s.beams.store.length age.toNat) } } .ok (u16 r.number)

/-- RELEASE_BEAM as a command. -/
def execReleaseBeam (h : Hdr) (age : Byte) (s : State) : Host.Outcome State Fault Refusal :=
  run h (Instr.releaseBeam h age).frame .releaseBeam (releaseBeamWork age) s

/-- Whether a plan entry's fields lie in their ranges (R121). -/
def PlanEntry.inRange (e : PlanEntry) : Bool :=
  decide (1 ≤ e.number ∧ e.number ≤ 65535 ∧ 100 ≤ e.target ∧ e.target ≤ 60000 ∧ 200 ≤ e.cut ∧ e.cut ≤ 5000)

/-- PLAN APPEND (R121). -/
def planAppendWork (number target cut : Word) (s : State) : Served :=
  let e : PlanEntry := ⟨number.toNat, target.toNat, cut.toNat⟩
  if !e.inRange then .plain s .range
  else if Config.maxPlan ≤ s.beams.plan.length then .plain s .full
  else
    .done { s with beams := { s.beams with plan := s.beams.plan ++ [e] } } .ok (u8 (s.beams.plan.length + 1))

/-- PLAN_APPEND as a command. -/
def execPlanAppend (h : Hdr) (number target cut : Word) (s : State) : Host.Outcome State Fault Refusal :=
  run h (Instr.planAppend h number target cut).frame .planAppend (planAppendWork number target cut) s

/-- PLAN CLEAR (R122). -/
def planClearWork (s : State) : Served :=
  .done { s with beams := { s.beams with plan := [] } } .ok (u8 s.beams.plan.length)

/-- PLAN_CLEAR as a command. -/
def execPlanClear (h : Hdr) (s : State) : Host.Outcome State Fault Refusal :=
  run h (Instr.planClear h).frame .planClear planClearWork s

end Sys2Proof.Machine
end

