-- ==== Sys2Proof/Machine/Path.lean ====
section
/-! DEFINITION. Chapter 2: the Path Tracking Unit. The boundary event in its seven steps, the path clear, READ SEGMENT
and FIND; and the stretch of a boundary (R11 to R13), which the boundary asks of the Length Counter Unit. -/

namespace Sys2Proof.Machine

/-! ### Path clear (R14, R35) -/

/-- A path clear: every slot untracked at the depths in force, the open segments emptied and reopened, the sequence
counter 0, both windows empty, the path origin set and the stretch ring emptied (R14, R35). -/
def State.pathClear (s : State) : State :=
  let g := s.geometry
  let t := { s with
    path := { s.path with
      lanes := ⟨List.replicate g.depthA none, List.replicate g.depthB none⟩
      main := List.replicate g.depthMain none
      sequence := 0 }
    line := { s.line with origin := s.line.track, distance := 0, stretchRing := [] } }
  ((t.openSegment .a 0).openSegment .b 0).emptyWindows

/-- CLEAR PATH (R36). -/
def clearPathWork (s : State) : Served :=
  if s.line.lineState = .stopped then .done s.pathClear .ok [] else .plain s .notStopped

/-- CLEAR_PATH as a command. -/
def execClearPath (h : Hdr) (s : State) : Host.Outcome State Fault Refusal :=
  run h (Instr.clearPath h).frame .clearPath clearPathWork s

/-! ### Step 1: the sequence number (R26) -/

/-- The next sequence number taken; at 4,294,967,295 the path is cleared first (R26). -/
def State.takeSequence (s : State) : State :=
  let t := if s.path.sequence < Config.maxLong then s else s.pathClear
  { t with path := { t.path with sequence := t.path.sequence + 1 } }

/-! ### The stretch of a boundary (R11 to R13) -/

/-- The stretch quotient of T and F: (T − F) × 10,000 over F, rounded half away from zero, held to ±999 (R12). -/
def stretchFigure (t f : Nat) : Int :=
  if f ≤ t then (min (roundHalfUp ((t - f) * 10000) f) 999 : Nat)
  else -((min (roundHalfUp ((f - t) * 10000) f) 999 : Nat) : Int)

/-- The feed travel F of the request: the feed counter less the oldest entry of the ring, modulo 2^32 (R11). -/
def LengthUnit.feedTravel (u : LengthUnit) (oldest : Long) : Nat := (u.feed - oldest).toNat

/-- The stretch of the boundary: absent for an empty ring or no feed travel (R12). -/
def LengthUnit.stretch (u : LengthUnit) : Option Int :=
  match u.stretchRing with
  | [] => none
  | oldest :: rest =>
    if u.feedTravel oldest = 0 then none
    else some (stretchFigure (Config.segmentLength * (rest.length + 1)) (u.feedTravel oldest))

/-- The FEED_SILENT detail after the request (R12). -/
def LengthUnit.feedSilentAfter (u : LengthUnit) : Bool :=
  match u.stretchRing with
  | [] => u.feedSilent
  | oldest :: _ => decide (u.feedTravel oldest = 0)

/-- The request's effect on the unit: the detail, INPUT_FAULT when it is newly set, and the feed counter pushed into
the ring (R11, R12). -/
def State.takeStretch (s : State) : State :=
  ({ s with line := { s.line with
      feedSilent := s.line.feedSilentAfter
      stretchRing := pushRing Config.stretchWindow s.line.stretchRing s.line.feed } }).postIf
    (s.line.feedSilentAfter && !s.line.feedSilent) .inputFault

/-- STRETCH_HIGH for a present stretch above the limit of the active style (R13). -/
def State.stretchCauses (s : State) (stretch : Option Int) : CauseSet :=
  match stretch with
  | some v => causeIf (decide ((s.style.bands.stretchLimit : Int) < v)) .stretchHigh
  | none => 0

/-! ### Step 2: closing and opening (R27, R28) -/

/-- The lane record a close forms, from the state with the segment's liquor already in the window (R27, R53). -/
def State.laneRecord (s : State) (x : Box) (stretch : Option Int) : LaneRecord where
  sequence := s.path.sequence
  style := s.settings.active
  ends := s.style.yarn.ends.get x
  speed := s.line.speed
  pressure := (s.boxes.pressure.get x).commanded
  roll := if (s.roll x).state.referenced then some (s.roll x).position else none
  liquor := s.closeLiquor x
  concentration := (s.report x).usedConcentration
  density := (s.report x).usedDensity
  addOn := s.laneAddOn x
  stretch := stretch
  dwell := 0
  causes := (s.segment x).causes ||| s.stretchCauses stretch ||| s.addOnCauses x

/-- A lane record made by a close, with the state it leaves. -/
structure Closed where
  record : LaneRecord
  state : State

/-- One lane's open segment closed, and a new one opened with SOAK where soak is pending (R27, R28). -/
def State.closeSegment (s : State) (x : Box) (stretch : Option Int) : Closed :=
  let t := s.enterLiquor x (s.closeLiquor x)
  ⟨t.laneRecord x stretch, t.openAtBoundary x⟩

/-! ### Steps 3 to 5: shift, merge, shift (R29 to R32) -/

/-- What goes out of a lane's head slot. -/
def headOf {α : Type} (lane : List (Option α)) : Option α := lane.getLast?.getD none

/-- A lane shifted one slot toward the head, its tail taking new content (R29, R32). -/
def shiftLane {α : Type} (lane : List (Option α)) (entering : Option α) : List (Option α) := entering :: lane.dropLast

/-- The cause UNTRACKED_PART of a merge: one part untracked while its lane exists (R31). -/
def untrackedPart (laneB : Bool) (outA outB : Option LaneRecord) : CauseSet :=
  causeIf (laneB && (outA.isNone || outB.isNone)) .untrackedPart

/-- The causes of a part, none for an untracked one. -/
def partCauses (part : Option LaneRecord) : CauseSet := (part.map LaneRecord.causes).getD 0

/-- The dwell of a part, 0 for an untracked one. -/
def partDwell (part : Option LaneRecord) : Nat := (part.map LaneRecord.dwell).getD 0

/-- The slot merged from what left lanes A and B; `outB` is absent while lane B does not exist (R30, R31, R57, R58). -/
def State.merge (s : State) (outA outB : Option LaneRecord) : Option MainRecord :=
  match outA.or outB with
  | none => none
  | some lead =>
    let addOn := combinedAddOn s.laneBExists outA outB
    some {
      sequence := s.path.sequence
      seqA := outA.map LaneRecord.sequence
      seqB := outB.map LaneRecord.sequence
      style := lead.style
      addOn := addOn
      moisture := none
      dwell := max (partDwell outA) (partDwell outB)
      causes := partCauses outA ||| partCauses outB ||| untrackedPart s.laneBExists outA outB
        ||| bandCause (s.settings.styles.get lead.style).bands.addOn .addOnLow .addOnHigh addOn }

/-- The content of a slot, untracked outside the lane. -/
def slotAt {α : Type} (lane : List (Option α)) (p : Nat) : Option α := lane[p]?.getD none

/-- The state with the main lane replaced. -/
def State.setMain (s : State) (l : List (Option MainRecord)) : State := { s with path := { s.path with main := l } }

/-- Step 6, the gauge arrival: the record now at the gauge position is stamped (R32, R80). -/
def State.gaugeArrival (s : State) : State :=
  match slotAt s.path.main s.geometry.gauge with
  | some r => s.setMain (s.path.main.set s.geometry.gauge (some (s.stampMoisture r)))
  | none => s

/-! ### The boundary event -/

/-- Steps 1 and 2 of the boundary: the sequence number, the stretch, and each existing lane closed and opened; the
answer holds the two new records. -/
def State.closeAll (s : State) : Option LaneRecord × Option LaneRecord × State :=
  let t := s.takeSequence
  let stretch := t.line.stretch
  let u := t.takeStretch
  let a := u.closeSegment .a stretch
  if u.laneBExists then
    let b := a.state.closeSegment .b stretch
    (some a.record, some b.record, b.state)
  else (some a.record, none, a.state)

/-- Steps 3 to 5 of the boundary: the lanes shifted, the outgoing slots merged, the main lane shifted. -/
def State.shiftAll (s : State) (recA recB : Option LaneRecord) : State :=
  let outA := headOf (s.lane .a)
  let outB := if s.laneBExists then headOf (s.lane .b) else none
  let t := s.setLane .a (shiftLane (s.lane .a) recA)
  let u := if s.laneBExists then t.setLane .b (shiftLane (t.lane .b) recB) else t
  u.setMain (shiftLane u.path.main (u.merge outA outB))

/-- The slot that lay at the marker position before the main shift, as it stands after the gauge arrival: it now lies
one position nearer the head, or is the delivered slot when the marker is the head (R33, R109). -/
def State.replacedAtMarker (s : State) (delivered : Option MainRecord) : Option MainRecord :=
  (s.path.main[s.geometry.marker + 1]?).getD delivered

/-- Steps 6 and 7 of the boundary: the gauge arrival, the marker arrival, the delivery (R32 to R34). -/
def State.arriveAll (s : State) (delivered : Option MainRecord) : State :=
  let t := s.gaugeArrival
  (t.markerArrival (slotAt t.path.main t.geometry.marker) (t.replacedAtMarker delivered)).deliver delivered

/-- The segment boundary event, whole, in the order of its seven steps (R25 to R34). -/
def State.boundary (s : State) : State :=
  let c := s.closeAll
  (c.2.2.shiftAll c.1 c.2.1).arriveAll (headOf c.2.2.path.main)

/-! ### READ SEGMENT and FIND (R40 to R42) -/

/-- The depth of a lane, 0 for lane B while it does not exist (R40). -/
def State.depth (s : State) : Lane → Nat
  | .a => s.geometry.depthA
  | .b => s.geometry.depthB
  | .main => s.geometry.depthMain

/-- READ SEGMENT (R40). -/
def readSegmentWork (lane : Byte) (position : Word) (s : State) : Served :=
  match laneOf lane with
  | none => .plain s .range
  | some l =>
    if s.depth l ≤ position.toNat then .plain s .range
    else
      let data := match l with
        | .a => (slotAt (s.lane .a) position.toNat).map LaneRecord.bytes
        | .b => (slotAt (s.lane .b) position.toNat).map LaneRecord.bytes
        | .main => (slotAt s.path.main position.toNat).map MainRecord.bytes
      match data with
      | some bytes => .done s .ok bytes
      | none => .plain s .none

/-- READ_SEGMENT as a command. -/
def execReadSegment (h : Hdr) (lane : Byte) (position : Word) (s : State) : Host.Outcome State Fault Refusal :=
  run h (Instr.readSegment h lane position).frame .readSegment (readSegmentWork lane position) s

/-- What a search looks at in a slot: the sequence, the causes and the fields a record carries, each optional. -/
structure Found where
  sequence : Nat
  causes : CauseSet
  speed : Option Nat
  pressure : Option Nat
  addOn : Option Nat
  stretch : Option Int
  moisture : Option Nat
  dwell : Nat
  deriving DecidableEq, Repr

/-- A lane record as a search sees it. -/
def LaneRecord.found (r : LaneRecord) : Found :=
  ⟨r.sequence, r.causes, some r.speed, some r.pressure, r.addOn, r.stretch, none, r.dwell⟩

/-- A main record as a search sees it. -/
def MainRecord.found (r : MainRecord) : Found :=
  ⟨r.sequence, r.causes, none, none, r.addOn, none, r.moisture, r.dwell⟩

/-- The slots of a lane as a search sees them. -/
def State.searched (s : State) : Lane → List (Option Found)
  | .a => (s.lane .a).map fun x => x.map LaneRecord.found
  | .b => (s.lane .b).map fun x => x.map LaneRecord.found
  | .main => s.path.main.map fun x => x.map MainRecord.found

/-- The value of a searched field, absent where the record's field is absent. -/
def Found.field (r : Found) : FindField → Option Int
  | .speed => r.speed.map Int.ofNat
  | .pressure => r.pressure.map Int.ofNat
  | .addOn => r.addOn.map Int.ofNat
  | .stretch => r.stretch
  | .moisture => r.moisture.map Int.ofNat
  | .dwell => some r.dwell

/-- Whether a lane's records carry a field (R41). -/
def carries : Lane → FindField → Bool
  | .main, .speed | .main, .pressure | .main, .stretch | .a, .moisture | .b, .moisture => false
  | .main, .addOn | .main, .moisture | .main, .dwell => true
  | .a, .speed | .a, .pressure | .a, .addOn | .a, .stretch | .a, .dwell => true
  | .b, .speed | .b, .pressure | .b, .addOn | .b, .stretch | .b, .dwell => true

/-- What a search tests: a comparison of a field with a signed value, or a shared cause (R42). -/
inductive Query where
  | eq (field : FindField) (value : Int)
  | le (field : FindField) (value : Int)
  | ge (field : FindField) (value : Int)
  | any (causes : CauseSet)
  deriving DecidableEq, Repr

/-- The query FIND's bytes spell for a lane, absent where R41 refuses RANGE. -/
def queryOf (lane : Lane) (field mode : Byte) (value : Long) : Option Query :=
  match findModeOf mode with
  | none => none
  | some .any => if value.extractLsb' 0 16 = 0 then none else some (.any (value.extractLsb' 0 16))
  | some .eq => ((findFieldOf field).filter (carries lane)).map fun f => .eq f value.toInt
  | some .le => ((findFieldOf field).filter (carries lane)).map fun f => .le f value.toInt
  | some .ge => ((findFieldOf field).filter (carries lane)).map fun f => .ge f value.toInt

/-- Whether a record matches: absent (none) when its searched field is absent and it is passed over (R42). -/
def Query.test (q : Query) (r : Found) : Option Bool :=
  match q with
  | .eq f v => (r.field f).map fun w => w == v
  | .le f v => (r.field f).map fun w => decide (w ≤ v)
  | .ge f v => (r.field f).map fun w => decide (v ≤ w)
  | .any c => some (shares r.causes c)

/-- The end of a search: a hit, or the counts of a search that found nothing (R42). -/
inductive SearchEnd where
  | hit (position sequence : Nat)
  | notFound (examined passed : Nat)
  deriving DecidableEq, Repr

/-- The search of R42 over the slots from a position toward the head, with the counts so far. -/
def search (q : Query) : List (Option Found) → Nat → Nat → Nat → SearchEnd
  | [], _, examined, passed => .notFound examined passed
  | slot :: rest, position, examined, passed =>
    match slot.bind fun r => (q.test r).map fun m => (r, m) with
    | none => search q rest (position + 1) (examined + 1) (passed + 1)
    | some (r, true) => .hit position r.sequence
    | some (_, false) => search q rest (position + 1) (examined + 1) passed

/-- The data of a FIND (Figure 10-10). -/
def SearchEnd.bytes : SearchEnd → List Byte
  | .hit p n => u8 0 ++ u16 p ++ u32 n
  | .notFound e p => u8 1 ++ u16 e ++ u16 p

/-- FIND (R41, R42). -/
def findWork (lane : Byte) (start : Word) (field mode : Byte) (value : Long) (s : State) : Served :=
  match laneOf lane with
  | none => .plain s .range
  | some l =>
    if s.depth l ≤ start.toNat then .plain s .range
    else match queryOf l field mode value with
      | none => .plain s .range
      | some q => .done s .ok (search q ((s.searched l).drop start.toNat) start.toNat 0 0).bytes

/-- FIND as a command. -/
def execFind (h : Hdr) (lane : Byte) (start : Word) (field mode : Byte) (value : Long) (s : State) :
    Host.Outcome State Fault Refusal :=
  run h (Instr.find h lane start field mode value).frame .find (findWork lane start field mode value) s

/-- The occupancy of a lane: the number of its slots holding a record (R43). -/
def occupancy {α : Type} (lane : List (Option α)) : Nat := (lane.filter Option.isSome).length

end Sys2Proof.Machine
end

