-- ==== Sys2Proof/Machine/Length.lean ====
section
/-! DEFINITION. Chapter 1: the Length Counter Unit. Encoder pulses, speed, LINE STATE and its announcement, the
millimetres and the boundaries they complete. -/

namespace Sys2Proof.Machine

/-! ### LINE STATE (R5 to R8) -/

/-- A change of LINE STATE, announced to the Condition Monitor, the Box Control Unit and the Beam Unit (R8). -/
def State.changeLineState (s : State) (new : LineState) : State :=
  let old := s.line.lineState
  if new = old then s
  else
    let t := { s with line := { s.line with lineState := new } }
    ((t.monitorAnnounce old new).boxesAnnounce old new).beamAnnounce new

/-- STANDSTILL_TIMEOUT: the work of R7. The timer runs only while LINE STATE is CRAWL or RUN. -/
def standstillTimeout (s : State) : State :=
  if s.line.lineState = .stopped then s
  else
    ({ s with line := { s.line with speed := 0, periods := [], lastCapture := none, standstill := none } }).changeLineState
      .stopped

/-- STANDSTILL_TIMEOUT as a command. -/
def execStandstillTimeout (s : State) : Host.Outcome State Fault Refusal := .next (s.whenRunning standstillTimeout)

/-! ### Speed (R3, R4, R6) -/

/-- The period a latch forms: the difference modulo 2^32, 0 entered as 1 (R3). -/
def latchedPeriod (now last : Long) : Nat := max 1 (now - last).toNat

/-- The latch of the timebase: a period joins the ring when a last capture is present (R3). -/
def LengthUnit.latch (u : LengthUnit) : LengthUnit :=
  match u.lastCapture with
  | none => { u with lastCapture := some u.timebase }
  | some last => { u with
      periods := pushRing Config.periodWindow u.periods (latchedPeriod u.timebase last)
      lastCapture := some u.timebase }

/-- The speed of R4: 600 × weight × n over the sum of the n periods, rounded half up, at most 3000. -/
def speedFigure (weight : Nat) (periods : List Nat) : Nat :=
  min (roundHalfUp (600 * weight * periods.length) periods.sum) 3000

/-- The state R6 moves LINE STATE to at a new speed. -/
def comparedLineState (old : LineState) (speed threshold hysteresis : Nat) : LineState :=
  match old with
  | .crawl => if threshold ≤ speed then .run else .crawl
  | .run => if speed < threshold - hysteresis then .crawl else .run
  | .stopped => .stopped

/-- The speed computation of R4 and the comparison of R6, made when the pulse added a period. -/
def State.computeSpeed (s : State) : State :=
  let v := speedFigure s.measurement.trackWeight s.line.periods
  let t := { s with line := { s.line with speed := v } }
  t.changeLineState (comparedLineState s.line.lineState v s.style.bands.crawlThreshold s.measurement.hysteresis)

/-- The standstill timer started from zero, its timeout read from the machine table (R5, R7, R9). -/
def State.startStandstill (s : State) : State :=
  { s with line := { s.line with
      standstill := some ⟨0, s.measurement.standstillTimeout * Config.millisecond⟩ } }

/-- The line-state work of a TRACK PULSE, before its length is counted (R3 to R7). -/
def State.trackLineWork (s : State) : State :=
  if s.line.lineState = .stopped then
    let t := ({ s with line := { s.line with speed := 0 } }).changeLineState .crawl
    ({ t with line := { t.line with lastCapture := some t.line.timebase } }).startStandstill
  else
    let latched := { s with line := s.line.latch }
    (if s.line.lastCapture.isSome then latched.computeSpeed else latched).startStandstill

/-! ### Millimetres (R1, R2) -/

/-- One millimetre added to the track counter and handled whole: the Beam Unit, the boundary distance, the boundary
(R2, R10). -/
def State.trackMillimetre (s : State) : State :=
  let t := ({ s with line := { s.line with track := s.line.track + 1 } }).woundMillimetre
  if t.line.distance + 1 < Config.segmentLength then
    { t with line := { t.line with distance := t.line.distance + 1 } }
  else ({ t with line := { t.line with distance := 0 } }).boundary

/-- A number of millimetres, one after another (R2). -/
def State.trackMillimetres : Nat → State → State
  | 0, s => s
  | n + 1, s => State.trackMillimetres n s.trackMillimetre

/-- The length of a TRACK PULSE: the residue, then each whole millimetre (R1, R2). -/
def State.countTrack (s : State) : State :=
  let total := s.line.trackResidue + s.measurement.trackWeight
  State.trackMillimetres (total / 1000) { s with line := { s.line with trackResidue := total % 1000 } }

/-- TRACK_PULSE: the line-state work, then the length (R1 to R6). -/
def trackPulse (s : State) : State := s.trackLineWork.countTrack

/-- TRACK_PULSE as a command. -/
def execTrackPulse (s : State) : Host.Outcome State Fault Refusal := .next (s.whenRunning trackPulse)

/-- FEED_PULSE: the feed residue and the feed counter (R1). -/
def feedPulse (s : State) : State :=
  let total := s.line.feedResidue + s.measurement.feedWeight
  { s with line := { s.line with
      feedResidue := total % 1000
      feed := s.line.feed + BitVec.ofNat 32 (total / 1000) } }

/-- FEED_PULSE as a command. -/
def execFeedPulse (s : State) : Host.Outcome State Fault Refusal := .next (s.whenRunning feedPulse)

end Sys2Proof.Machine
end

