-- ==== Sys2Proof/Machine/StyleStore.lean ====
section
/-! DEFINITION. Chapter 7: the Style Store. Selection, reading, writing and activation of style sets. -/

namespace Sys2Proof.Machine

/-- Whether STORE SETTINGS is in flight (R153). -/
def State.storeBusy (s : State) : Bool := s.nv.flight.isSome

/-- The state with a port's selected style replaced. -/
def State.select (s : State) (p : Port) (i : StyleIndex) : State := s.setPort p { s.port p with selected := i }

/-- Index, whether that set is active, whether it is pending: the head of SELECT STYLE and READ STYLE data. -/
def State.styleMarks (s : State) (i : StyleIndex) : List Byte :=
  u8 i ++ flag8 (s.settings.active == i) ++ flag8 (s.pendingStyle == some i)

/-- SELECT STYLE (R127). -/
def selectStyleWork (p : Port) (index : Byte) (s : State) : Served :=
  match styleIndexOf index with
  | none => .plain s .range
  | some i => .done (s.select p i) .ok (s.styleMarks i)

/-- SELECT_STYLE as a command. -/
def execSelectStyle (h : Hdr) (index : Byte) (s : State) : Host.Outcome State Fault Refusal :=
  run h (Instr.selectStyle h index).frame .selectStyle (selectStyleWork h.port index) s

/-- READ STYLE (R128). -/
def readStyleWork (p : Port) (group : Byte) (s : State) : Served :=
  let i := (s.port p).selected
  match (s.settings.styles.get i).groupBytes group with
  | none => .plain s .range
  | some bytes => .done s .ok (s.styleMarks i ++ [group] ++ bytes)

/-- READ_STYLE as a command. -/
def execReadStyle (h : Hdr) (group : Byte) (s : State) : Host.Outcome State Fault Refusal :=
  run h (Instr.readStyle h group).frame .readStyle (readStyleWork h.port group) s

/-! ### Writing (R126, R129, R130) -/

/-- Whether a number lies in a range, both ends included. -/
def within (low high n : Nat) : Bool := decide (low ≤ n ∧ n ≤ high)

/-- Whether the speeds of curve points strictly increase (R129). -/
def speedsIncrease : List RawPoint → Bool
  | p :: q :: rest => decide (p.speed.toNat < q.speed.toNat) && speedsIncrease (q :: rest)
  | [_] => true
  | [] => true

end Sys2Proof.Machine

namespace Sys2Proof
open Machine

/-- The ranges of R126 and the conditions of R129 on a group's fields; a group outside 1 to 7 has none. -/
def StyleWrite.inRange : StyleWrite → Bool
  | .yarn a b t w =>
    within 1 20000 a.toNat && within 0 20000 b.toNat && within 1 50000 t.toNat && within 4 64 w.toNat
      && decide (a.toNat + b.toNat ≤ 30000)
  | .curve _ ps =>
    within 1 8 ps.length && ps.all (fun p => within 0 3000 p.speed.toNat && within 0 600 p.pressure.toNat)
      && speedsIncrease ps
  | .boxes dA dB sA sB k =>
    within 0 4000 dA.toNat && within 0 4000 dB.toNat && within 0 600 sA.toNat && within 0 600 sB.toNat
      && within 10 1800 k.toNat
  | .bands aL aH mL mH st cr =>
    within 0 9999 aL.toNat && within 0 9999 aH.toNat && within 0 300 mL.toNat && within 0 300 mH.toNat
      && within 0 999 st.toNat && within 0 600 cr.toNat && decide (aL.toNat ≤ aH.toNat ∧ mL.toNat ≤ mH.toNat)
  | .drying d sl g => within 50 6000 d.toNat && within 0 200 sl.toNat && within 0 10000 g.toNat
  | .masks _ _ => true
  | .other _ _ => false

/-- A style set with one whole group replaced (R129). -/
def StyleWrite.apply (w : StyleWrite) (t : Style) : Style :=
  match w with
  | .yarn a b x n => { t with yarn := ⟨⟨a.toNat, b.toNat⟩, x.toNat, n.toNat⟩ }
  | .curve x ps => { t with curve := t.curve.set x (ps.map fun p => ⟨p.speed.toNat, p.pressure.toNat⟩) }
  | .boxes dA dB sA sB k => { t with boxes := ⟨⟨dA.toNat, dB.toNat⟩, ⟨sA.toNat, sB.toNat⟩, k.toNat⟩ }
  | .bands aL aH mL mH st cr =>
    { t with bands := ⟨⟨aL.toNat, aH.toNat⟩, ⟨mL.toNat, mH.toNat⟩, st.toNat, cr.toNat⟩ }
  | .drying d sl g => { t with drying := ⟨d.toNat, sl.toNat, g.toNat⟩ }
  | .masks bf ink => { t with masks := ⟨bf, ink⟩ }
  | .other _ _ => t

/-- Whether a WRITE STYLE names a group outside 1 to 7. -/
def StyleWrite.unlisted : StyleWrite → Bool
  | .other _ _ => true
  | .yarn .. | .curve .. | .boxes .. | .bands .. | .drying .. | .masks .. => false

/-- Whether a WRITE STYLE writes group 1. -/
def StyleWrite.isYarn : StyleWrite → Bool
  | .yarn .. => true
  | .curve .. | .boxes .. | .bands .. | .drying .. | .masks .. | .other .. => false

/-- Whether a WRITE STYLE writes group 4, whose dip depths take effect at the write itself (R130). -/
def StyleWrite.isBoxes : StyleWrite → Bool
  | .boxes .. => true
  | .yarn .. | .curve .. | .bands .. | .drying .. | .masks .. | .other .. => false

end Sys2Proof

namespace Sys2Proof.Machine

/-- WRITE STYLE: the checks of R129 in their order, then the write; a write of group 4 of the active style has the
depth conditions evaluated anew (R89, R130). -/
def writeStyleWork (p : Port) (w : StyleWrite) (s : State) : Served :=
  let i := (s.port p).selected
  if w.unlisted then .plain s .range
  else if s.storeBusy then .plain s .busy
  else if w.isYarn && s.settings.active == i then .plain s .activeStyle
  else if !w.inRange then .plain s .range
  else
    let t := { s with settings := { s.settings with
      styles := s.settings.styles.set i (w.apply (s.settings.styles.get i)) } }
    .done (if w.isBoxes && s.settings.active == i then t.settleDepths else t) .ok []

/-- WRITE_STYLE as a command. -/
def execWriteStyle (h : Hdr) (w : StyleWrite) (s : State) : Host.Outcome State Fault Refusal :=
  run h (Instr.writeStyle h w).frame .writeStyle (writeStyleWork h.port w) s

/-! ### Activation (R131) -/

/-- The data of ACTIVATE STYLE: active index, pending index, absent byte. -/
def State.activeMarks (s : State) : List Byte :=
  u8 s.settings.active ++ u8 ((s.pendingStyle.map Fin.val).getD 0) ++ absentByte [s.pendingStyle.isNone]

/-- ACTIVATE STYLE, the steps of R131 in their order. -/
def activateStyleWork (index : Byte) (s : State) : Served :=
  match styleIndexOf index with
  | none => .plain s .range
  | some i =>
    if s.storeBusy then .plain s .busy
    else if s.settings.active = i then
      let t := { s with pendingStyle := none }
      .done t .ok t.activeMarks
    else if s.lacksBoxB i then .plain s .noBoxB
    else if s.beams.current.isNone then
      let t := ({ s with pendingStyle := none }).switchStyle i
      .done t .ok t.activeMarks
    else
      let t := { s with pendingStyle := some i }
      .done t .ok t.activeMarks

/-- ACTIVATE_STYLE as a command. -/
def execActivateStyle (h : Hdr) (index : Byte) (s : State) : Host.Outcome State Fault Refusal :=
  run h (Instr.activateStyle h index).frame .activateStyle (activateStyleWork index) s

end Sys2Proof.Machine
end

