-- ==== Sys2Proof/Machine/SettingsStore.lean ====
section
/-! DEFINITION. Chapter 9: the machine table, the role table, the nonvolatile store, the retention mark and the
starts. -/

namespace Sys2Proof.Machine

/-! ### READ MACHINE -/

/-- READ MACHINE (R150). -/
def readMachineWork (group : Byte) (s : State) : Served :=
  match s.settings.machine.groupBytes group with
  | none => .plain s .range
  | some bytes => .done s .ok (group :: bytes)

/-- READ_MACHINE as a command. -/
def execReadMachine (h : Hdr) (group : Byte) (s : State) : Host.Outcome State Fault Refusal :=
  run h (Instr.readMachine h group).frame .readMachine (readMachineWork group) s

/-! ### WRITE MACHINE: ranges (Figure 9-1, R19) -/

/-- A zone as its presence and ends give it; the ends of an absent zone are not read (R157). -/
def zoneFrom (presence : Byte) (first last : Nat) : Option ZoneRange :=
  if settingOf presence = some true then some ⟨first, last⟩ else none

end Sys2Proof.Machine

namespace Sys2Proof
open Machine

/-- The geometry the bytes of a write give. -/
def RawGeometry.geometry (g : RawGeometry) : Geometry where
  depthA := g.depthA.toNat
  depthB := g.depthB.toNat
  depthMain := g.depthMain.toNat
  zones := {
    predryA := zoneFrom g.predryA.presence g.predryA.first.toNat g.predryA.last.toNat
    predryB := zoneFrom g.predryB.presence g.predryB.first.toNat g.predryB.last.toNat
    main1 := zoneFrom g.main1.presence g.main1.first.toNat g.main1.last.toNat
    main2 := zoneFrom g.main2.presence g.main2.first.toNat g.main2.last.toNat
    main3 := zoneFrom g.main3.presence g.main3.first.toNat g.main3.last.toNat
    main4 := zoneFrom g.main4.presence g.main4.first.toNat g.main4.last.toNat }
  gauge := g.gauge.toNat
  marker := g.marker.toNat
  fine := g.fine.toNat
  immersion := ⟨g.immersionA.toNat, g.immersionB.toNat⟩

/-- Whether every presence byte is 0 or 1 (Figure 10-9). -/
def RawGeometry.presencesLegal (g : RawGeometry) : Bool :=
  [g.predryA.presence, g.predryB.presence, g.main1.presence, g.main2.presence, g.main3.presence,
   g.main4.presence].all fun b => (settingOf b).isSome

end Sys2Proof

namespace Sys2Proof.Machine

/-- Whether a zone lies in its lane, first not greater than last (R19). -/
def zoneFits (depth : Nat) : Option ZoneRange → Bool
  | some r => decide (r.first ≤ r.last ∧ r.last < depth)
  | none => true

/-- Whether two zones share no position (R19). -/
def zonesApart : Option ZoneRange → Option ZoneRange → Bool
  | some r, some q => decide (r.last < q.first ∨ q.last < r.first)
  | none, _ | some _, none => true

/-- The ranges of Figure 9-1 and the position conditions of R19 on a geometry. -/
def Geometry.inRange (g : Geometry) : Bool :=
  within 1 64 g.depthA && within 0 64 g.depthB && within 16 256 g.depthMain
    && zoneFits g.depthA g.zones.predryA && zoneFits g.depthB g.zones.predryB
    && zoneFits g.depthMain g.zones.main1 && zoneFits g.depthMain g.zones.main2
    && zoneFits g.depthMain g.zones.main3 && zoneFits g.depthMain g.zones.main4
    && zonesApart g.zones.main1 g.zones.main2 && zonesApart g.zones.main1 g.zones.main3
    && zonesApart g.zones.main1 g.zones.main4 && zonesApart g.zones.main2 g.zones.main3
    && zonesApart g.zones.main2 g.zones.main4 && zonesApart g.zones.main3 g.zones.main4
    && decide (g.gauge < g.depthMain) && decide (g.marker < g.depthMain) && within 0 199 g.fine
    && decide (g.markerLead ≤ 10000) && within 200 4000 g.immersion.a && within 200 4000 g.immersion.b

end Sys2Proof.Machine

namespace Sys2Proof
open Machine

/-- The ranges of Figure 9-1 on a group; a group outside 0 to 4 has none. -/
def MachineWrite.inRange : MachineWrite → Bool
  | .geometry g => g.presencesLegal && g.geometry.inRange
  | .measurement t f a b st hy sp c =>
    within 100 5000 t.toNat && within 100 5000 f.toNat && within 100 20000 a.toNat && within 100 20000 b.toNat
      && within 50 2000 st.toNat && within 0 100 hy.toNat && within 50 300 sp.toNat && within 10 600 c.toNat
  | .actuators t r l ramp d dip jet =>
    within 100 4000 t.toNat && within 50 2000 r.toNat && within 50 600 l.toNat && within 1 100 ramp.toNat
      && within 0 600 d.toNat && (settingOf dip).isSome && within 10 200 jet.toNat
  | .beam st ov => within 0 20000 st.toNat && within 0 20000 ov.toNat
  | .ports l => within 100 5000 l.toNat
  | .other _ _ => false

/-- Whether a WRITE MACHINE names a group outside 0 to 4. -/
def MachineWrite.unlisted : MachineWrite → Bool
  | .other _ _ => true
  | .geometry _ | .measurement .. | .actuators .. | .beam .. | .ports _ => false

/-- Whether a WRITE MACHINE writes the geometry group. -/
def MachineWrite.isGeometry : MachineWrite → Bool
  | .geometry _ => true
  | .measurement .. | .actuators .. | .beam .. | .ports _ | .other .. => false

/-- Whether a WRITE MACHINE writes the actuators or the geometry group, which wait for the rolls (R102). -/
def MachineWrite.needsRollsStill : MachineWrite → Bool
  | .geometry _ | .actuators .. => true
  | .measurement .. | .beam .. | .ports _ | .other .. => false

/-- Whether a WRITE MACHINE takes lane B from an active style that uses it (R150, last check). -/
def MachineWrite.takesBoxB (w : MachineWrite) (s : State) : Bool :=
  match w with
  | .geometry g => g.depthB == 0 && s.style.yarn.ends.b != 0
  | .measurement .. | .actuators .. | .beam .. | .ports _ | .other .. => false

/-- The machine table with one whole group replaced (R150). -/
def MachineWrite.apply (w : MachineWrite) (m : MachineTable) : MachineTable :=
  match w with
  | .geometry g => { m with geometry := g.geometry }
  | .measurement t f a b st hy sp c =>
    { m with measurement := ⟨t.toNat, f.toNat, ⟨a.toNat, b.toNat⟩, st.toNat, hy.toNat, sp.toNat, c.toNat⟩ }
  | .actuators t r l ramp d dip jet =>
    { m with actuators := ⟨t.toNat, r.toNat, l.toNat, ramp.toNat, d.toNat, settingOf dip == some true, jet.toNat⟩ }
  | .beam st ov => { m with beam := ⟨st.toNat, ov.toNat⟩ }
  | .ports l => { m with lockGap := l.toNat }
  | .other _ _ => m

end Sys2Proof

namespace Sys2Proof.Machine

/-! ### WRITE MACHINE: effects -/

/-- Soak channel B as a geometry write that removes or creates lane B leaves it; its immersion flag is that of an
unreferenced roll (R70, R102). -/
def soakAfresh : SoakChannel := ⟨0, false, 0, true⟩

/-- A zone channel after a geometry write: kept where the zone stays present with its range, otherwise its accumulator
0 and its mark clear; the heat flag is kept (R75). -/
def ZoneChannel.rezone (c : ZoneChannel) (before after : Option ZoneRange) : ZoneChannel :=
  if before.isSome ∧ before = after then c else { c with accumulator := 0, crossed := false }

/-- Roll channel B when a geometry write removes or creates lane B: UNREF_IDLE and an empty slot; a lane B coming into
being has the position register at 0 (R102). -/
def RollChannel.rebox (r : RollChannel) (created : Bool) : RollChannel where
  state := .unrefIdle
  position := if created then 0 else r.position
  depth := .unknown
  slot := none
  stepPhase := 0

/-- The effects of an accepted geometry write, from the state before it: the channels of box B where lane B came or
went, the zone channels, then the path clear at the new depths (R37, R70, R75, R89, R102). -/
def State.afterGeometry (s before : State) : State :=
  let rezoned := { s with monitor := { s.monitor with
    zones := s.monitor.zones.mapWith fun z (c : ZoneChannel) => c.rezone (before.zoneRange z) (s.zoneRange z) } }
  let reboxed :=
    if before.laneBExists = s.laneBExists then rezoned
    else (rezoned.setRoll .b ((rezoned.roll .b).rebox s.laneBExists)).setSoak .b soakAfresh
  reboxed.settleDepths.pathClear

/-- The effects of an accepted measurement write: each FRESH box tested against the age limit (R48). -/
def State.afterMeasurement (s : State) : State := (s.retestAge .a).retestAge .b

/-- The effects of an accepted actuators write: the pressure channels held to the limit (R87), rolls beyond the travel
unreferenced, ROLL_UNREF posted once if any became so (R102). -/
def State.afterActuators (s : State) : State :=
  let l := s.actuators.pressureLimit
  let t := { s with boxes := { s.boxes with
    pressure := ⟨s.boxes.pressure.a.limit l, s.boxes.pressure.b.limit l⟩ } }
  ((t.checkTravel .a).checkTravel .b).postIf (s.beyondTravel .a || s.beyondTravel .b) .rollUnref

end Sys2Proof.Machine

namespace Sys2Proof
open Machine

/-- What the units do on the new values of an accepted write (R150). -/
def MachineWrite.effects (w : MachineWrite) (before s : State) : State :=
  match w with
  | .geometry _ => s.afterGeometry before
  | .measurement .. => s.afterMeasurement
  | .actuators .. => s.afterActuators
  | .beam .. | .ports _ | .other .. => s

end Sys2Proof

namespace Sys2Proof.Machine

/-- WRITE MACHINE: the checks of R150 in their order, then the write and its effects. -/
def writeMachineWork (w : MachineWrite) (s : State) : Served :=
  if w.unlisted then .plain s .range
  else if s.storeBusy then .plain s .busy
  else if s.line.lineState ≠ .stopped then .plain s .notStopped
  else if w.isGeometry && s.beams.current.isSome then .plain s .beamOpen
  else if w.needsRollsStill && ((s.roll .a).state.inMotion || (s.roll .b).state.inMotion) then .plain s .busy
  else if !w.inRange then .plain s .range
  else if w.takesBoxB s then .plain s .noBoxB
  else
    .done (w.effects s { s with settings := { s.settings with machine := w.apply s.settings.machine } }) .ok []

/-- WRITE_MACHINE as a command. -/
def execWriteMachine (h : Hdr) (w : MachineWrite) (s : State) : Host.Outcome State Fault Refusal :=
  run h (Instr.writeMachine h w).frame .writeMachine (writeMachineWork w) s

/-! ### WRITE ROLES (R151) -/

/-- The role table four bytes give, absent when one is no role. -/
def rolesOf (r0 r1 r2 r3 : Byte) : Option (PerPort Role) :=
  match roleOf r0, roleOf r1, roleOf r2, roleOf r3 with
  | some a, some b, some c, some d => some ⟨a, b, c, d⟩
  | none, _, _, _ | some _, none, _, _ | some _, some _, none, _ | some _, some _, some _, none => none

/-- Whether a role table keeps a STATION port (R151). -/
def hasStation (t : PerPort Role) : Bool :=
  t.p0 == .station || t.p1 == .station || t.p2 == .station || t.p3 == .station

/-- WRITE ROLES: a write that changes the writing port's own role leaves it no lock (R151). -/
def writeRolesWork (p : Port) (r0 r1 r2 r3 : Byte) (s : State) : Served :=
  if s.storeBusy then .plain s .busy
  else match rolesOf r0 r1 r2 r3 with
    | none => .plain s .range
    | some t =>
      if !hasStation t then .plain s .range
      else ⟨{ s with settings := { s.settings with roles := t } }, .ok, [], t.get p != s.role p⟩

/-- WRITE_ROLES as a command. -/
def execWriteRoles (h : Hdr) (r0 r1 r2 r3 : Byte) (s : State) : Host.Outcome State Fault Refusal :=
  run h (Instr.writeRoles h r0 r1 r2 r3).frame .writeRoles (writeRolesWork h.port r0 r1 r2 r3) s

/-! ### The nonvolatile store (R152, R153) -/

/-- Whether a bank is good: its check word is written and matches its content (R152). -/
def Bank.good (b : Bank) : Bool := b.check == some (Config.bankCheckWord b.content)

/-- A bank with its content written and no check word yet: the word is written last (R152). -/
def BankCopy.unsealed (c : BankCopy) : Bank := ⟨c, none⟩

/-- A bank with its content and the check word over it (R152). -/
def BankCopy.sealed (c : BankCopy) : Bank := ⟨c, some (Config.bankCheckWord c)⟩

/-- The last good bank and its content (R152). -/
def NvStore.lastGood (n : NvStore) : Option (BankId × BankCopy) :=
  match n.bank1.good, n.bank2.good with
  | false, false => none
  | true, false => some (.bank1, n.bank1.content)
  | false, true => some (.bank2, n.bank2.content)
  | true, true =>
    if n.bank2.content.generation = n.bank1.content.generation + 1 then some (.bank2, n.bank2.content)
    else some (.bank1, n.bank1.content)

/-- The bank and the generation count of the next store: the other bank, one above the last good count; bank 1 with
count 1 when no bank is good (R153). -/
def NvStore.nextStore (n : NvStore) : BankId × Long :=
  match n.lastGood with
  | none => (.bank1, 1)
  | some (.bank1, c) => (.bank2, c.generation + 1)
  | some (.bank2, c) => (.bank1, c.generation + 1)

/-- The store with a bank replaced. -/
def NvStore.setBank (n : NvStore) (id : BankId) (b : Bank) : NvStore :=
  match id with
  | .bank1 => { n with bank1 := b }
  | .bank2 => { n with bank2 := b }

/-- The store with a write stopped where one is in flight: the bank being written is not good, and what it then holds is
a free value (R153, log entry 15). -/
def NvStore.stopStore (n : NvStore) (draw : Nat) : NvStore :=
  match n.flight with
  | none => n
  | some f => { n.setBank f.bank (Config.stoppedBank draw).unsealed with flight := none }

/-- STORE SETTINGS: the copy is taken at the grant and goes into the bank written, which is not good until its check
word is written last (R152, R153). -/
def storeSettingsWork (p : Port) (s : State) : Served :=
  if s.storeBusy then .plain s .busy
  else
    let target := s.nv.nextStore
    let copy : BankCopy := ⟨s.settings, target.2⟩
    .done { s with nv := { s.nv.setBank target.1 copy.unsealed with
      flight := some ⟨copy, target.1, p, 0⟩ } } .ok []

/-- STORE_SETTINGS as a command. -/
def execStoreSettings (h : Hdr) (s : State) : Host.Outcome State Fault Refusal :=
  run h (Instr.storeSettings h).frame .storeSettings (storeSettingsWork h.port) s

/-- STORE_END: the check word is written over the copy, so the bank is good; STORE_DONE is posted to the originating port
(R152, R153). -/
def storeEnd (s : State) : State :=
  match s.nv.flight with
  | none => s
  | some f => ({ s with nv := { s.nv.setBank f.bank f.copy.sealed with flight := none } }).postTo f.port .storeDone

/-- STORE_END as a command. -/
def execStoreEnd (s : State) : Host.Outcome State Fault Refusal := .next (s.whenRunning storeEnd)

/-! ### Retention and starts (R154, R155) -/

/-- RETENTION_MARK_WRITE: the mark is written over the retained state and the card is held; a store in flight stops,
leaving its bank not good (R153, R154), and a start-up hold ends (R155). -/
def retentionMarkWrite (s : State) : State :=
  { s with
    mark := true
    power := .held
    hold := none
    nv := s.nv.stopStore s.freeCount
    freeCount := s.freeCount + 1 }

/-- RETENTION_MARK_WRITE as a command. -/
def execRetentionMarkWrite (s : State) : Host.Outcome State Fault Refusal :=
  .next (s.whenRunning retentionMarkWrite)

/-- The start kind of R154: NV_LOST without a good bank, WARM with the mark intact and RETAIN SUPPLY good, else
COLD. -/
def State.startKindFor (s : State) (retainSupply : Bool) : StartKind :=
  match s.nv.lastGood with
  | none => .nvLost
  | some _ => if s.mark && retainSupply then .warm else .cold

/-- The working copy a start takes (R154). -/
def State.startSettings (s : State) (kind : StartKind) : Settings :=
  match kind with
  | .warm => s.settings
  | .cold => (s.nv.lastGood.map fun c => c.2.settings).getD factorySettings
  | .nvLost => factorySettings

/-- What every start does alike: power, kind, hold, mark erased, working copy, ports, arbiter, no store in flight, the
boxes' channels, the zone and soak channels, gauge, jets and the volatile part of the length unit (R15, R16, R76, R77,
R87, R103, R123, R124, R154, R155). The pending style and the soak-pending counts are kept here; a cold start drops
them. The timebase runs from an unstated value (R15). -/
def State.startCommon (s : State) (kind : StartKind) : State :=
  { s with
    freeCount := s.freeCount + 1
    power := .running
    startKind := kind
    hold := some 0
    mark := false
    line := { s.line with
      timebase := Config.timebaseAtStart s.freeCount
      lastCapture := none
      periods := []
      speed := 0
      lineState := .stopped
      standstill := none }
    addOn := { s.addOn with windows := ⟨[], []⟩ }
    monitor := {
      interval := some 0
      soak := ⟨⟨0, false, s.monitor.soak.a.pending, true⟩, ⟨0, false, s.monitor.soak.b.pending, true⟩⟩
      zones := s.monitor.zones.mapWith fun _ _ => ⟨true, 0, false⟩
      gauge := .none
      regain := none
      sampleTimer := 0 }
    boxes := {
      pressure := ⟨⟨0, 0⟩, ⟨0, 0⟩⟩
      rampTimer := 0
      rolls := ⟨.start, .start⟩
      autoLift := none
      fieldReset := none
      homeSwitch := s.boxes.homeSwitch }
    beams := { s.beams with cutJet := none, faultJet := none }
    settings := s.startSettings kind
    nv := s.nv.stopStore s.freeCount
    ports := ⟨.start, .start, .start, .start⟩
    arbiter := { pointer := .p0, lock := none, lockGap := none } }

/-- The auto-lift timer started with the start state, at the delay of the working copy loaded (R103). -/
def State.startAutoLift (s : State) : State := { s with boxes := { s.boxes with autoLift := s.autoLiftStart } }

/-- What a COLD or NV_LOST start takes beside the common part, ending with the path clear (R15, R38, R60, R76, R123,
R134); the openings carry DEPTH_UNKNOWN for boxes in use alone (R90, R103; DEDUCED, log entry 17). -/
def State.startCold (s : State) : State :=
  ({ s with
    line := { s.line with
      track := 0, trackResidue := 0, feed := 0, feedResidue := 0, feedSilent := false }
    addOn := { s.addOn with
      reports := ⟨⟨none, none, .unknown, none⟩, ⟨none, none, .unknown, none⟩⟩ }
    monitor := { s.monitor with soak := ⟨soakAfresh, soakAfresh⟩ }
    beams := { s.beams with current := none, plan := [], store := [] }
    pendingStyle := none }).pathClear

/-- The soak pending of a box in use at a warm start: at least the immersion count (R77). -/
def State.warmSoak (s : State) (x : Box) : State :=
  if s.inUse x then
    s.setSoak x { s.soak x with
      pending := max (s.soak x).pending (immersionCount (s.geometry.immersion.get x)) }
  else s

/-- What a WARM start takes beside the common part: POWERSTOP on the records in the zones, soak pending armed, reports
STALE, DEPTH_UNKNOWN on the open segments of boxes in use alone (DEDUCED, log entry 17), the beam RETAINED (R39, R61,
R77, R103, R124). -/
def State.startWarm (s : State) : State :=
  let stamped := Zone.all.foldl (fun t z => t.addToZone z Cause.powerstop.set 0) s
  let armed := (stamped.warmSoak .a).warmSoak .b
  let aged := { armed with addOn := { armed.addOn with
    reports := ⟨armed.addOn.reports.a.warm, armed.addOn.reports.b.warm⟩ } }
  let marked := (aged.addCausesInUse .a Cause.depthUnknown.set).addCausesInUse .b Cause.depthUnknown.set
  match marked.beams.current with
  | none => marked
  | some o => marked.setBeam (some (o.withRecord { o.record with retained := true }))

/-- CARD_START: the start kind is decided and every unit takes its start state, opening the start-up hold (R154,
R155). -/
def cardStart (retainSupply : Bool) (s : State) : State :=
  let kind := s.startKindFor retainSupply
  let common := (s.startCommon kind).startAutoLift
  match kind with
  | .warm => common.startWarm
  | .cold => common.startCold
  | .nvLost => common.startCold

/-- CARD_START as a command. -/
def execCardStart (retainSupply : Bool) (s : State) : Host.Outcome State Fault Refusal := .next (cardStart retainSupply s)

/-- START_UP_HOLD_END: the ports take characters and the attention lines follow (R155). -/
def startUpHoldEnd (s : State) : State := { s with hold := none }

/-- START_UP_HOLD_END as a command. -/
def execStartUpHoldEnd (s : State) : Host.Outcome State Fault Refusal := .next (s.whenRunning startUpHoldEnd)

end Sys2Proof.Machine
end

