-- ==== Sys2Proof/Machine/Ports.lean ====
section
/-! DEFINITION. Chapter 8: the Port Controllers and the Command Arbiter. Reception of frames, frames in error and
overlapping frames, breaks, replies, the lock gap timer, the arbiter's choice, and the commands READ STATUS,
EXCHANGE EVENTS, SET ATTENTION MASK, SNAP, READ SNAP and UNKNOWN_COMMAND_CODE. -/

namespace Sys2Proof.Machine

/-! ### The receive stage (R136) -/

/-- Whether a frame has ended by count: the number of characters given by its length byte, the second character, has
been received (R136). -/
def RxFrame.ended (f : RxFrame) : Bool :=
  match f.bytes with
  | _ :: len :: _ => decide (len.toNat ≤ f.count)
  | [_] | [] => false

/-- The length byte, once received. -/
def RxFrame.lengthByte (f : RxFrame) : Option Byte := f.bytes[1]?

/-- The tag, 0 where the tag byte was not received (R137). -/
def RxFrame.tag (f : RxFrame) : Byte := (f.bytes[2]?).getD 0

/-- Whether the length byte gave more than 64 bytes or fewer than the shortest frame (R137). -/
def RxFrame.badLength (f : RxFrame) : Bool :=
  match f.lengthByte with
  | some n => decide (n.toNat < Config.shortestFrame ∨ Config.frameLimit < n.toNat)
  | none => false

/-- Whether a frame ended by count is clean: no character in error, a length within the limits, a check word that
matches (R136, R156). -/
def RxFrame.clean (f : RxFrame) : Bool := !f.framing && !f.parity && !f.badLength && checkWordMatches f.bytes

/-- The causes of a LINK_ERROR (R158). -/
inductive LinkCause where
  | framing | parity | length | gap | check
  deriving DecidableEq, Repr

/-- The code of a cause of a LINK_ERROR (R158). -/
def LinkCause.code : LinkCause → Byte
  | .framing => 1
  | .parity => 2
  | .length => 3
  | .gap => 4
  | .check => 5

/-- The first cause that applies, in the order of R137; `byGap` says that the frame ended by the gap limit. -/
def RxFrame.linkCause (f : RxFrame) (byGap : Bool) : LinkCause :=
  if f.framing then .framing
  else if f.parity then .parity
  else if f.badLength then .length
  else if byGap then .gap
  else .check

/-- A port's receive stage emptied. -/
def PortUnit.dropFrame (u : PortUnit) : PortUnit := { u with rx := none }

/-- The end of a frame on a port whose role is NONE: discarded, the port back in IDLE when the frame began there
(R136). -/
def PortUnit.discardFrame (u : PortUnit) (f : RxFrame) : PortUnit :=
  if f.begunIdle then { u with rx := none, state := .idle } else { u with rx := none }

/-- A LINK_ERROR answered by the port itself, without the arbiter or the engine (R137). -/
def PortUnit.linkError (u : PortUnit) (f : RxFrame) (byGap : Bool) : PortUnit :=
  { u with
    rx := none
    state := .replying
    reply := some ⟨resultFrame f.tag .linkError u.attention [(f.linkCause byGap).code], true⟩ }

/-- FRAME_COMPLETE of a port: the port enters QUEUED with the frame, and the holder's lock gap timer stops (R136,
R143). DESIGN CHOICE: the frame of a holder whose role is NONE is discarded and leaves the timer running (log entry
24). -/
def State.frameClean (s : State) (p : Port) (f : RxFrame) : State :=
  if s.role p = .none then s.setPort p ((s.port p).discardFrame f)
  else
    let t := s.setPort p { s.port p with rx := none, state := .queued, queued := f.bytes }
    if t.arbiter.lock = some p then { t with arbiter := { t.arbiter with lockGap := none } } else t

/-- FRAME_IN_ERROR of a port (R137). -/
def State.frameBad (s : State) (p : Port) (f : RxFrame) (byGap : Bool) : State :=
  if s.role p = .none then s.setPort p ((s.port p).discardFrame f)
  else s.setPort p ((s.port p).linkError f byGap)

/-- FRAME_OVERLAP of a port: the frame is discarded and OVERLAP posted to the port, unless its role is NONE (R136,
R138). -/
def State.frameOver (s : State) (p : Port) : State :=
  let t := s.setPort p (s.port p).dropFrame
  if s.role p = .none then t else t.postTo p .overlap

/-- The end of the frame a port's receive stage holds, whatever its kind. -/
def State.endFrame (s : State) (p : Port) (f : RxFrame) (byGap : Bool) : State :=
  if !f.begunIdle then s.frameOver p
  else if !byGap && f.clean then s.frameClean p f
  else s.frameBad p f byGap

/-- The frame a port's receive stage holds once it has ended by count. -/
def State.endedFrame (s : State) (p : Port) : Option RxFrame := ((s.port p).rx).filter RxFrame.ended

/-- The commands of a frame's end act only outside the start-up hold (R155). -/
def State.portsOpen (s : State) : Bool := s.hold.isNone

/-- FRAME_COMPLETE: a frame begun in IDLE, ended by count and clean (R136). -/
def frameComplete (p : Port) (s : State) : State :=
  match s.endedFrame p with
  | some f => if s.portsOpen && f.begunIdle && f.clean then s.frameClean p f else s
  | none => s

/-- FRAME_COMPLETE as a command. -/
def execFrameComplete (p : Port) (s : State) : Host.Outcome State Fault Refusal := .next (s.whenRunning (frameComplete p))

/-- FRAME_IN_ERROR: a frame begun in IDLE, ended by count and not clean (R137). -/
def frameInError (p : Port) (s : State) : State :=
  match s.endedFrame p with
  | some f => if s.portsOpen && f.begunIdle && !f.clean then s.frameBad p f false else s
  | none => s

/-- FRAME_IN_ERROR as a command. -/
def execFrameInError (p : Port) (s : State) : Host.Outcome State Fault Refusal := .next (s.whenRunning (frameInError p))

/-- FRAME_OVERLAP: a frame ended by count that began while the port was not IDLE (R138). -/
def frameOverlap (p : Port) (s : State) : State :=
  match s.endedFrame p with
  | some f => if s.portsOpen && !f.begunIdle then s.frameOver p else s
  | none => s

/-- FRAME_OVERLAP as a command. -/
def execFrameOverlap (p : Port) (s : State) : Host.Outcome State Fault Refusal := .next (s.whenRunning (frameOverlap p))

/-- GAP_LIMIT_EXPIRY: a frame still being received ends by the gap limit (R136, R137, R138). -/
def gapLimitExpiry (p : Port) (s : State) : State :=
  match (s.port p).rx with
  | some f => if s.portsOpen && !f.ended then s.endFrame p f true else s
  | none => s

/-- GAP_LIMIT_EXPIRY as a command. -/
def execGapLimitExpiry (p : Port) (s : State) : Host.Outcome State Fault Refusal :=
  .next (s.whenRunning (gapLimitExpiry p))

/-- A frame that has ended by count is handled before the next character is taken. -/
def State.settleFrame (s : State) (p : Port) : State :=
  match s.endedFrame p with
  | some f => s.endFrame p f false
  | none => s

/-- The lead byte of a command frame (Figure 10-1). -/
def leadByte : Byte := 0xB4

/-- A character taken by a receive stage: with no frame held, an error-free lead byte begins one and any other is
discarded; otherwise it is counted, stored within the 64 bytes, and restarts the gap timing (R136, R138). -/
def PortUnit.take (u : PortUnit) (char : Byte) (parityError framingError : Bool) : PortUnit :=
  match u.rx with
  | none =>
    if char = leadByte ∧ parityError = false ∧ framingError = false then
      { u with
        rx := some ⟨u.state == .idle, [char], 1, false, false, 0⟩
        state := if u.state = .idle then .receiving else u.state }
    else u
  | some f =>
    { u with rx := some { f with
        bytes := if f.bytes.length < Config.frameLimit then f.bytes ++ [char] else f.bytes
        count := f.count + 1
        framing := f.framing || framingError
        parity := f.parity || parityError
        gap := 0 } }

/-- CHARACTER_RECEIVED: ignored during the start-up hold and in a break (R136, R139, R155). -/
def characterReceived (p : Port) (char : Byte) (parityError framingError : Bool) (s : State) : State :=
  if s.portsOpen && !(s.port p).inBreak then
    let t := s.settleFrame p
    t.setPort p ((t.port p).take char parityError framingError)
  else s

/-- CHARACTER_RECEIVED as a command. -/
def execCharacterReceived (p : Port) (char : Byte) (parityError framingError : Bool) (s : State) :
    Host.Outcome State Fault Refusal := .next (s.whenRunning (characterReceived p char parityError framingError))

/-! ### Breaks and replies (R138, R139) -/

/-- A port reset by a break: IDLE, every frame dropped, event set and snapshot emptied, selected style 0, the mask all
16 flags unless KEEP is set (R139, R134). -/
def PortUnit.reset (u : PortUnit) : PortUnit where
  state := .idle
  rx := none
  queued := []
  inBreak := true
  reply := none
  events := 0
  mask := if u.keep then u.mask else 0xFFFF
  keep := u.keep
  snapshot := none
  selected := 0

/-- The lock released, with its gap timer, when a port holds it. -/
def State.dropLock (s : State) (p : Port) : State :=
  if s.arbiter.lock = some p then { s with arbiter := { s.arbiter with lock := none, lockGap := none } } else s

/-- BREAK: the port is reset and its lock released; ignored during the start-up hold (R139, R155). -/
def lineBreak (p : Port) (s : State) : State :=
  if s.portsOpen then (s.setPort p (s.port p).reset).dropLock p else s

/-- BREAK as a command. -/
def execLineBreak (p : Port) (s : State) : Host.Outcome State Fault Refusal := .next (s.whenRunning (lineBreak p))

/-- MARK_CONDITION_RETURN: the port takes characters again (R139). -/
def markConditionReturn (p : Port) (s : State) : State := s.setPort p { s.port p with inBreak := false }

/-- MARK_CONDITION_RETURN as a command. -/
def execMarkConditionReturn (p : Port) (s : State) : Host.Outcome State Fault Refusal :=
  .next (s.whenRunning (markConditionReturn p))

/-- The lock gap timer started at the end of a reply to the holder, at the lock gap as it stands (R143). -/
def State.startLockGap (s : State) (p : Port) : State :=
  if s.arbiter.lock = some p then
    { s with arbiter := { s.arbiter with
        lockGap := some ⟨0, s.settings.machine.lockGap * Config.millisecond⟩ } }
  else s

/-- REPLY_SENT: the port returns to IDLE; the end of a reply to the lock's holder starts the lock gap timer, but not of
an answer to a frame in error (R137, R138, R143). -/
def replySent (p : Port) (s : State) : State :=
  match (s.port p).reply with
  | none => s
  | some r =>
    let t := s.setPort p { s.port p with state := .idle, reply := none }
    if r.linkError then t else t.startLockGap p

/-- REPLY_SENT as a command. -/
def execReplySent (p : Port) (s : State) : Host.Outcome State Fault Refusal := .next (s.whenRunning (replySent p))

/-- LOCK_GAP_EXPIRY: the lock is released and LOCK_BROKEN posted to the former holder (R143). -/
def lockGapExpiry (s : State) : State :=
  match s.arbiter.lock, s.arbiter.lockGap with
  | some p, some _ => ({ s with arbiter := { s.arbiter with lock := none, lockGap := none } }).postTo p .lockBroken
  | none, _ | some _, none => s

/-- LOCK_GAP_EXPIRY as a command. -/
def execLockGapExpiry (s : State) : Host.Outcome State Fault Refusal := .next (s.whenRunning lockGapExpiry)

/-! ### The arbiter's choice (R140) -/

/-- Whether a port is QUEUED. -/
def State.waits (s : State) (p : Port) : Bool := (s.port p).state == .queued

/-- The command a waiting frame's code names. -/
def State.waitingKind (s : State) (p : Port) : Option CmdKind := ((s.port p).queued[3]?).bind CmdKind.ofCode

/-- Whether a port is QUEUED, has the LINE role and holds a command of the urgent class (R140). -/
def State.waitsUrgent (s : State) (p : Port) : Bool :=
  s.waits p && s.role p == .line && (s.waitingKind p).any CmdKind.urgent

/-- The rotation from a port (R140). -/
def rotation (p : Port) : List Port := [p, nextPort p, nextPort (nextPort p), nextPort (nextPort (nextPort p))]

/-- The port the arbiter grants, none when no command may be granted (R140). -/
def State.arbitrate (s : State) : Option Port :=
  match s.arbiter.lock with
  | some holder => if s.waits holder then some holder else none
  | none =>
    ((rotation s.arbiter.pointer).find? s.waitsUrgent).or ((rotation s.arbiter.pointer).find? s.waits)

/-! ### READ STATUS (R147) -/

/-- The position READ STATUS returns: absent for an unreferenced roll, and for box B without lane B (R104). -/
def State.statusPosition (s : State) (x : Box) : Option Nat :=
  if s.laneExists x && (s.roll x).state.referenced then some (s.roll x).position else none

/-- The roll state READ STATUS returns: UNREF_IDLE for box B without lane B (R104). -/
def State.statusRoll (s : State) (x : Box) : Nat :=
  if s.laneExists x then (s.roll x).state.code else RollState.unrefIdle.code

/-- The concentration stale detail of a box: clear for a box that does not exist (R49). -/
def State.staleDetail (s : State) (x : Box) : Bool := s.laneExists x && (s.report x).state == .stale

/-- The input fault detail: FEED_SILENT bit 0, concentration stale A bit 1 and B bit 2, gauge fault bit 3. -/
def State.faultDetail (s : State) : Nat :=
  flagCode s.line.feedSilent + 2 * flagCode (s.staleDetail .a) + 4 * flagCode (s.staleDetail .b)
    + 8 * flagCode (s.monitor.gauge == GaugeState.fault)

/-- The wound length READ STATUS returns, 0 in IDLE (R105). -/
def State.woundLength (s : State) : Nat := (s.beams.current.map fun o => o.record.wound).getD 0

/-- The 38 data bytes of READ STATUS (Figure 10-10). -/
def State.statusBytes (s : State) : List Byte :=
  u8 s.line.lineState.code ++ u16 s.line.speed ++ be32 s.line.track ++ be32 s.line.feed
    ++ u8 (occupancy (s.lane .a)) ++ u8 (occupancy (s.lane .b)) ++ u16 (occupancy s.path.main)
    ++ u8 (s.statusRoll .a) ++ opt16 (s.statusPosition .a) ++ u8 (s.statusRoll .b) ++ opt16 (s.statusPosition .b)
    ++ u16 s.boxes.pressure.a.commanded ++ u16 s.boxes.pressure.b.commanded ++ flag8 s.fieldResetRuns
    ++ u8 (beamStateCode (s.beams.current.map OpenBeam.phase)) ++ u32 s.woundLength
    ++ u8 s.settings.active ++ u8 ((s.pendingStyle.map Fin.val).getD 0) ++ u8 s.startKind.code
    ++ flag8 s.storeBusy ++ u8 s.faultDetail ++ u8 ((s.arbiter.lock.map portCode).getD 0)
    ++ absentByte [(s.statusPosition .a).isNone, (s.statusPosition .b).isNone, s.pendingStyle.isNone,
        s.arbiter.lock.isNone]

/-- READ STATUS (R147). -/
def readStatusWork (s : State) : Served := .done s .ok s.statusBytes

/-- READ_STATUS as a command. -/
def execReadStatus (h : Hdr) (s : State) : Host.Outcome State Fault Refusal :=
  run h (Instr.readStatus h).frame .readStatus readStatusWork s

/-! ### Events and masks (R145, R146) -/

/-- EXCHANGE EVENTS (R146). -/
def exchangeEventsWork (p : Port) (clear : Word) (s : State) : Served :=
  let taken := (s.port p).events
  .done (s.setPort p { s.port p with events := taken &&& ~~~clear }) .ok (be16 taken)

/-- EXCHANGE_EVENTS as a command. -/
def execExchangeEvents (h : Hdr) (clear : Word) (s : State) : Host.Outcome State Fault Refusal :=
  run h (Instr.exchangeEvents h clear).frame .exchangeEvents (exchangeEventsWork h.port clear) s

/-- SET ATTENTION MASK (R145). -/
def setAttentionMaskWork (p : Port) (mask : Word) (keep : Byte) (s : State) : Served :=
  match settingOf keep with
  | none => .plain s .range
  | some k =>
    .done (s.setPort p { s.port p with mask := mask, keep := k }) .ok (be16 mask ++ be16 (s.port p).events)

/-- SET_ATTENTION_MASK as a command. -/
def execSetAttentionMask (h : Hdr) (mask : Word) (keep : Byte) (s : State) : Host.Outcome State Fault Refusal :=
  run h (Instr.setAttentionMask h mask keep).frame .setAttentionMask (setAttentionMaskWork h.port mask keep) s

/-! ### Snapshots (R148, R149) -/

/-- The data of SNAP: kind, beam number, count, absent byte (Figure 10-10). -/
def Snapshot.summary : Snapshot → List Byte
  | .beam r => u8 0 ++ u16 r.number ++ u8 r.ranges.length ++ absentByte [false]
  | .plan es => u8 1 ++ u16 0 ++ u8 es.length ++ absentByte [true]

/-- A copy taken into a port's snapshot (R148). -/
def State.takeSnapshot (s : State) (p : Port) (c : Snapshot) : Served :=
  .done (s.setPort p { s.port p with snapshot := some c }) .ok c.summary

/-- SNAP: source CURRENT 0, STORED 1, PLAN 2 (R148). -/
def snapWork (p : Port) (source age : Byte) (s : State) : Served :=
  if source = 0 then
    match s.beams.current with
    | some o => s.takeSnapshot p (.beam o.record)
    | none => .plain s .none
  else if source = 1 then
    if 3 < age.toNat then .plain s .range
    else match storedOf s.beams.store age.toNat with
      | some r => s.takeSnapshot p (.beam r)
      | none => .plain s .none
  else if source = 2 then s.takeSnapshot p (.plan s.beams.plan)
  else .plain s .range

/-- SNAP as a command. -/
def execSnap (h : Hdr) (source age : Byte) (s : State) : Host.Outcome State Fault Refusal :=
  run h (Instr.snap h source age).frame .snap (snapWork h.port source age) s

/-- The data of a READ SNAP of a run of items: next index, END, the items (R149). -/
def itemsFrom {α : Type} (items : List α) (start most : Nat) (bytes : α → List Byte) : List Byte :=
  let part := (items.drop start).take most
  u8 (start + part.length) ++ flag8 (start + part.length == items.length) ++ part.flatMap bytes

/-- The data of a READ SNAP HEADER: next index 0, END when the count is 0, the header or the entry count (R149). -/
def Snapshot.headerBytes : Snapshot → List Byte
  | .beam r => u8 0 ++ flag8 (r.ranges.length == 0) ++ r.header
  | .plan es => u8 0 ++ flag8 (es.length == 0) ++ u8 es.length

/-- READ SNAP: part HEADER 0, RANGES 1, PLAN 2; at most 4 ranges or 6 entries (R149). -/
def readSnapWork (p : Port) (part start : Byte) (s : State) : Served :=
  if 2 < part.toNat then .plain s .range
  else match (s.port p).snapshot with
    | none => .plain s .none
    | some c =>
      if part = 0 then .done s .ok c.headerBytes
      else match c with
        | .beam r =>
          if part = 1 ∧ start.toNat ≤ r.ranges.length then
            .done s .ok (itemsFrom r.ranges start.toNat 4 FaultRange.bytes)
          else .plain s .range
        | .plan es =>
          if part = 2 ∧ start.toNat ≤ es.length then .done s .ok (itemsFrom es start.toNat 6 PlanEntry.bytes)
          else .plain s .range

/-- READ_SNAP as a command. -/
def execReadSnap (h : Hdr) (part start : Byte) (s : State) : Host.Outcome State Fault Refusal :=
  run h (Instr.readSnap h part start).frame .readSnap (readSnapWork h.port part start) s

/-! ### UNKNOWN_COMMAND_CODE (R157) -/

/-- UNKNOWN_COMMAND_CODE as a command: refused INVALID at its grant, with no effect, no permission check and no guard
test; its HOLD flag is acted on (R141, R142, R157). -/
def execUnknownCommandCode (h : Hdr) (code : Byte) (reserved : BitVec 4) (params : List Byte) (s : State) :
    Host.Outcome State Fault Refusal :=
  .next (serve h (Instr.unknownCommandCode h code reserved params).frame (fun g => .plain g .invalid) s)

end Sys2Proof.Machine
end

