-- ==== Sys2Proof/Machine/Clock.lean ====
section
/-! DEFINITION. The card by itself: what is due when no command waits in the queue (a frame that has ended, a command
the arbiter grants, a timer that has reached its limit), and the passing of one microsecond when nothing is. -/

namespace Sys2Proof.Machine

/-! ### One microsecond -/

/-- A running timer one microsecond on. -/
def Timer.tick (t : Timer) : Timer := { t with elapsed := t.elapsed + 1 }

/-- Whether a running timer has reached its limit. -/
def Timer.due (t : Timer) : Bool := decide (t.limit ≤ t.elapsed)

/-- The Length Counter Unit one microsecond on: the timebase and the standstill timer (R3, R7). -/
def LengthUnit.tick (u : LengthUnit) : LengthUnit :=
  { u with timebase := u.timebase + 1, standstill := u.standstill.map Timer.tick }

/-- A report register one microsecond on: the age timer runs while it is present (R47). -/
def Report.tick (r : Report) : Report := { r with age := r.age.map (· + 1) }

/-- A roll channel one microsecond on: in motion its step period runs at the step rate (R88). -/
def RollChannel.tick (rate : Nat) (r : RollChannel) : RollChannel :=
  if r.state.inMotion then { r with stepPhase := r.stepPhase + rate } else r

/-- A port one microsecond on: the gap timing of the frame being received (R136). -/
def PortUnit.tick (u : PortUnit) : PortUnit := { u with rx := u.rx.map fun f => { f with gap := f.gap + 1 } }

/-- The whole card one microsecond on (log entry 3). -/
def State.tick (s : State) : State :=
  { s with
    hold := s.hold.map (· + 1)
    line := s.line.tick
    addOn := { s.addOn with reports := ⟨s.addOn.reports.a.tick, s.addOn.reports.b.tick⟩ }
    monitor := { s.monitor with interval := s.monitor.interval.map (· + 1), sampleTimer := s.monitor.sampleTimer + 1 }
    boxes := { s.boxes with
      rampTimer := s.boxes.rampTimer + 1
      rolls := ⟨s.boxes.rolls.a.tick s.actuators.stepRate, s.boxes.rolls.b.tick s.actuators.stepRate⟩
      autoLift := s.boxes.autoLift.map Timer.tick
      fieldReset := s.boxes.fieldReset.map (· - 1) }
    beams := { s.beams with cutJet := s.beams.cutJet.map (· - 1), faultJet := s.beams.faultJet.map (· - 1) }
    nv := { s.nv with flight := s.nv.flight.map fun f => { f with elapsed := f.elapsed + 1 } }
    ports := s.ports.map PortUnit.tick
    arbiter := { s.arbiter with lockGap := s.arbiter.lockGap.map Timer.tick } }

/-! ### What is due -/

/-- A command that is due when a condition holds. -/
def dueIf (c : Bool) (i : Instr) : Option Instr := if c then some i else none

/-- The end of the frame a port's receive stage holds, by count or by the gap limit (R136 to R138). -/
def State.dueFrame (s : State) (p : Port) : Option Instr :=
  match (s.port p).rx with
  | none => none
  | some f =>
    if f.ended then
      if f.begunIdle then (if f.clean then some (.frameComplete p) else some (.frameInError p))
      else some (.frameOverlap p)
    else dueIf (decide (Config.gapLimit < f.gap)) (.gapLimitExpiry p)

/-- The command the arbiter grants, decoded at its grant (R140, R157). -/
def State.dueGrant (s : State) : Option Instr := s.arbitrate.map fun p => decodeFrame p (s.port p).queued

/-- The expiry of a box's age timer (R47). -/
def State.dueAge (s : State) (x : Box) : Option Instr :=
  dueIf (((s.report x).age.map fun t => decide (s.measurement.ageLimit * Config.second ≤ t)).getD false)
    (.ageTimerExpiry x)

/-- The step event of a box's roll (R88). -/
def State.dueStep (s : State) (x : Box) : Option Instr :=
  dueIf ((s.roll x).state.inMotion && decide (Config.second ≤ (s.roll x).stepPhase)) (.rollStep x)

/-- The first of what is due: the end of the hold, the frames, the grant, then the timers. Where several fall together
the manual gives the outcome of either order; this is one (log entry 3). A moisture sample the card takes by itself
finds a free loop current (R78). -/
def State.dueCommand (s : State) : Option Instr :=
  List.findSome? id [
    dueIf ((s.hold.map fun t => decide (Config.startUpHold ≤ t)).getD false) .startUpHoldEnd,
    s.dueFrame .p0, s.dueFrame .p1, s.dueFrame .p2, s.dueFrame .p3,
    s.dueGrant,
    dueIf ((s.line.standstill.map Timer.due).getD false) .standstillTimeout,
    dueIf ((s.monitor.interval.map fun t => decide (Config.standInterval ≤ t)).getD false) .intervalTimerExpiry,
    dueIf (decide (Config.rampInterval ≤ s.boxes.rampTimer)) .rampTimerExpiry,
    s.dueAge .a, s.dueAge .b,
    s.dueStep .a, s.dueStep .b,
    dueIf ((s.boxes.autoLift.map Timer.due).getD false) .autoLiftExpiry,
    dueIf (s.boxes.fieldReset == some 0) .fieldResetExpiry,
    dueIf (s.beams.cutJet == some 0) (.jetTimerExpiry .cut),
    dueIf (s.beams.faultJet == some 0) (.jetTimerExpiry .fault),
    dueIf ((s.arbiter.lockGap.map Timer.due).getD false) .lockGapExpiry,
    dueIf (decide (Config.sampleInterval ≤ s.monitor.sampleTimer)) (.gaugeSample (Config.loopCurrent s.freeCount)),
    dueIf ((s.nv.flight.map fun f => decide (Config.storeLimit ≤ f.elapsed)).getD false) .storeEnd]

end Sys2Proof.Machine
end

