-- ==== Sys2Proof/Machine/Dispatch.lean ====
section
/-! DEFINITION. One arm per command: its meaning. -/

namespace Sys2Proof.Machine

/-- The effect of a command on everything but the queue. -/
def exec (i : Instr) (s : State) : Host.Outcome State Fault Refusal :=
  match i with
  | .trackPulse => Sys2Proof.Machine.execTrackPulse s
  | .feedPulse => Sys2Proof.Machine.execFeedPulse s
  | .liquorPulse x => Sys2Proof.Machine.execLiquorPulse x s
  | .homeSwitchActive x level => Sys2Proof.Machine.execHomeSwitchActive x level s
  | .gaugeSample current => Sys2Proof.Machine.execGaugeSample current s
  | .standstillTimeout => Sys2Proof.Machine.execStandstillTimeout s
  | .intervalTimerExpiry => Sys2Proof.Machine.execIntervalTimerExpiry s
  | .rampTimerExpiry => Sys2Proof.Machine.execRampTimerExpiry s
  | .ageTimerExpiry x => Sys2Proof.Machine.execAgeTimerExpiry x s
  | .autoLiftExpiry => Sys2Proof.Machine.execAutoLiftExpiry s
  | .fieldResetExpiry => Sys2Proof.Machine.execFieldResetExpiry s
  | .rollStep x => Sys2Proof.Machine.execRollStep x s
  | .jetTimerExpiry jet => Sys2Proof.Machine.execJetTimerExpiry jet s
  | .lockGapExpiry => Sys2Proof.Machine.execLockGapExpiry s
  | .gapLimitExpiry p => Sys2Proof.Machine.execGapLimitExpiry p s
  | .frameComplete p => Sys2Proof.Machine.execFrameComplete p s
  | .frameInError p => Sys2Proof.Machine.execFrameInError p s
  | .frameOverlap p => Sys2Proof.Machine.execFrameOverlap p s
  | .lineBreak p => Sys2Proof.Machine.execLineBreak p s
  | .replySent p => Sys2Proof.Machine.execReplySent p s
  | .storeEnd => Sys2Proof.Machine.execStoreEnd s
  | .retentionMarkWrite => Sys2Proof.Machine.execRetentionMarkWrite s
  | .cardStart retainSupply => Sys2Proof.Machine.execCardStart retainSupply s
  | .startUpHoldEnd => Sys2Proof.Machine.execStartUpHoldEnd s
  | .readStatus h => Sys2Proof.Machine.execReadStatus h s
  | .readSegment h lane position => Sys2Proof.Machine.execReadSegment h lane position s
  | .find h lane start field mode value => Sys2Proof.Machine.execFind h lane start field mode value s
  | .selectStyle h index => Sys2Proof.Machine.execSelectStyle h index s
  | .readStyle h group => Sys2Proof.Machine.execReadStyle h group s
  | .readMachine h group => Sys2Proof.Machine.execReadMachine h group s
  | .exchangeEvents h clear => Sys2Proof.Machine.execExchangeEvents h clear s
  | .setAttentionMask h mask keep => Sys2Proof.Machine.execSetAttentionMask h mask keep s
  | .snap h source age => Sys2Proof.Machine.execSnap h source age s
  | .readSnap h part start => Sys2Proof.Machine.execReadSnap h part start s
  | .doff h => Sys2Proof.Machine.execDoff h s
  | .closeSet h => Sys2Proof.Machine.execCloseSet h s
  | .setTarget h metres => Sys2Proof.Machine.execSetTarget h metres s
  | .clearPath h => Sys2Proof.Machine.execClearPath h s
  | .moveRoll h box mode value => Sys2Proof.Machine.execMoveRoll h box mode value s
  | .homeRoll h box => Sys2Proof.Machine.execHomeRoll h box s
  | .collect h box => Sys2Proof.Machine.execCollect h box s
  | .resetField h => Sys2Proof.Machine.execResetField h s
  | .reportBox h box concentration density => Sys2Proof.Machine.execReportBox h box concentration density s
  | .zoneHeat h zone setting => Sys2Proof.Machine.execZoneHeat h zone setting s
  | .writeStyle h fields => Sys2Proof.Machine.execWriteStyle h fields s
  | .activateStyle h index => Sys2Proof.Machine.execActivateStyle h index s
  | .writeMachine h fields => Sys2Proof.Machine.execWriteMachine h fields s
  | .writeRoles h r0 r1 r2 r3 => Sys2Proof.Machine.execWriteRoles h r0 r1 r2 r3 s
  | .storeSettings h => Sys2Proof.Machine.execStoreSettings h s
  | .planAppend h number target cut => Sys2Proof.Machine.execPlanAppend h number target cut s
  | .planClear h => Sys2Proof.Machine.execPlanClear h s
  | .releaseBeam h age => Sys2Proof.Machine.execReleaseBeam h age s
  | .unknownCommandCode h code reserved params => Sys2Proof.Machine.execUnknownCommandCode h code reserved params s
  | .characterReceived p char parityError framingError => Sys2Proof.Machine.execCharacterReceived p char parityError framingError s
  | .markConditionReturn p => Sys2Proof.Machine.execMarkConditionReturn p s

end Sys2Proof.Machine
end

