-- ==== Sys2Proof/Machine/Idle.lean ====
section
/-! DEFINITION. The card on an empty queue. -/

namespace Sys2Proof.Machine

/-- The card on an empty queue: what is due is run; when nothing is, one microsecond passes; a held card stands still
(R154; log entry 3). -/
def idle (s : State) : Host.Outcome State Fault Refusal :=
  match s.power with
  | .held => .next s
  | .running =>
    match s.dueCommand with
    | some i => exec i s.drawFree
    | none => .next s.tick

end Sys2Proof.Machine
end

