-- ==== Sys2Proof/Safety.lean ====
section
/-! DEFINITION. What a safe state of the card is, and the terms the statements use. No step stops the card, so a run is
safe when every state of it is legal: each piece of state in the range its chapter gives it, and the relations between
pieces of state that the chapters promise. -/

namespace Sys2Proof.Machine

/-! ### Settings (R126, R129, R150, R151) -/

/-- Whether the speeds of a stored curve strictly increase (R129). -/
def curveIncreases : List CurvePoint → Bool
  | p :: q :: rest => decide (p.speed < q.speed) && curveIncreases (q :: rest)
  | [_] => true
  | [] => true

/-- A stored curve: 1 to 8 points in range, the speeds strictly increasing (R126, R129). -/
def curveLegal (ps : List CurvePoint) : Bool :=
  within 1 8 ps.length && ps.all (fun p => within 0 3000 p.speed && within 0 600 p.pressure) && curveIncreases ps

/-- A style set in the ranges of R126 with the conditions of R129. -/
def Style.legal (t : Style) : Bool :=
  within 1 20000 t.yarn.ends.a && within 0 20000 t.yarn.ends.b && decide (t.yarn.ends.a + t.yarn.ends.b ≤ 30000)
    && within 1 50000 t.yarn.tex && within 4 64 t.yarn.window
    && curveLegal t.curve.a && curveLegal t.curve.b
    && within 0 4000 t.boxes.dip.a && within 0 4000 t.boxes.dip.b
    && within 0 600 t.boxes.standstill.a && within 0 600 t.boxes.standstill.b && within 10 1800 t.boxes.soakLimit
    && within 0 9999 t.bands.addOn.low && within 0 9999 t.bands.addOn.high
    && decide (t.bands.addOn.low ≤ t.bands.addOn.high)
    && within 0 300 t.bands.moisture.low && within 0 300 t.bands.moisture.high
    && decide (t.bands.moisture.low ≤ t.bands.moisture.high)
    && within 0 999 t.bands.stretchLimit && within 0 600 t.bands.crawlThreshold
    && within 50 6000 t.drying.dwellLimit && within 0 200 t.drying.slowDistance && within 0 10000 t.drying.mergeGap

/-- A machine table in the ranges of Figure 9-1 with the position conditions of R19. -/
def MachineTable.legal (m : MachineTable) : Bool :=
  m.geometry.inRange
    && within 100 5000 m.measurement.trackWeight && within 100 5000 m.measurement.feedWeight
    && within 100 20000 m.measurement.liquorWeight.a && within 100 20000 m.measurement.liquorWeight.b
    && within 50 2000 m.measurement.standstillTimeout && within 0 100 m.measurement.hysteresis
    && within 50 300 m.measurement.gaugeSpan && within 10 600 m.measurement.ageLimit
    && within 100 4000 m.actuators.travel && within 50 2000 m.actuators.stepRate
    && within 50 600 m.actuators.pressureLimit && within 1 100 m.actuators.rampRate
    && within 0 600 m.actuators.autoLiftDelay && within 10 200 m.actuators.jetPulse
    && within 0 20000 m.beam.stopLead && within 0 20000 m.beam.overrunTolerance && within 100 5000 m.lockGap

/-- Settings whose every value lies in its range and whose role table keeps a STATION port. -/
def Settings.legal (x : Settings) : Bool :=
  x.machine.legal && x.styles.s0.legal && x.styles.s1.legal && x.styles.s2.legal && x.styles.s3.legal
    && hasStation x.roles

/-- A bank that is not good, or holds legal settings. -/
def bankLegal (b : Bank) : Bool := !b.good || b.content.settings.legal

/-- The working copy, each good bank and the copy of a store in flight hold legal settings. -/
def State.settingsLegal (s : State) : Prop :=
  s.settings.legal = true ∧ bankLegal s.nv.bank1 = true ∧ bankLegal s.nv.bank2 = true
    ∧ (s.nv.flight.all fun f => f.copy.settings.legal) = true

/-! ### The Length Counter Unit (the table of section 1.1, R5, R7, R66, R97) -/

/-- The ranges of section 1.1, and what STOPPED implies: speed 0, no period, no capture, no standstill timer; the
interval timer runs exactly in STOPPED, the auto-lift timer in STOPPED alone. -/
def State.lineLegal (s : State) : Prop :=
  s.line.trackResidue < 1000 ∧ s.line.feedResidue < 1000 ∧ s.line.distance < Config.segmentLength
    ∧ s.line.speed ≤ 3000 ∧ s.line.periods.length ≤ Config.periodWindow
    ∧ s.line.stretchRing.length ≤ Config.stretchWindow
    ∧ (s.line.lineState = .stopped →
        s.line.speed = 0 ∧ s.line.periods = [] ∧ s.line.lastCapture = none ∧ s.line.standstill = none)
    ∧ (s.line.lineState ≠ .stopped → s.line.lastCapture.isSome = true ∧ s.line.standstill.isSome = true)
    ∧ (s.monitor.interval.isSome = true ↔ s.line.lineState = .stopped)
    ∧ (s.boxes.autoLift.isSome = true → s.line.lineState = .stopped)

/-! ### The sheet path (R18, R26) -/

/-- Slots listed from the tail, as the sequence numbers they hold: one unbroken run beginning at the tail with the
number given, each next number one lower, and nothing beyond the run (R18). -/
def tailRun : Nat → List (Option Nat) → Bool
  | _, [] => true
  | _, none :: rest => rest.all Option.isNone
  | n, some q :: rest => decide (q = n ∧ 1 ≤ n) && tailRun (n - 1) rest

/-- The sequence numbers of a lane of lane records. -/
def laneNumbers (l : List (Option LaneRecord)) : List (Option Nat) := l.map fun x => x.map LaneRecord.sequence

/-- The merge sequence numbers of the main lane. -/
def mainNumbers (l : List (Option MainRecord)) : List (Option Nat) := l.map fun x => x.map MainRecord.sequence

/-- Whether every slot of a lane holds a record, and there is one. -/
def laneFull {α : Type} (l : List (Option α)) : Bool := !l.isEmpty && l.all Option.isSome

/-- The lanes have the depths of the machine table, and each holds one unbroken run ending at the tail whose numbers
count down from the last boundary's; records lie in the main lane only once a lane before it is full (R18, R29,
R30). -/
def State.pathLegal (s : State) : Prop :=
  s.path.sequence ≤ Config.maxLong
    ∧ (s.lane .a).length = s.geometry.depthA ∧ (s.lane .b).length = s.geometry.depthB
    ∧ s.path.main.length = s.geometry.depthMain
    ∧ tailRun s.path.sequence (laneNumbers (s.lane .a)) = true
    ∧ tailRun s.path.sequence (laneNumbers (s.lane .b)) = true
    ∧ tailRun s.path.sequence (mainNumbers s.path.main) = true
    ∧ (s.path.main.any Option.isSome = true → laneFull (s.lane .a) = true ∨ laneFull (s.lane .b) = true)
    ∧ (1 ≤ s.path.sequence → (slotAt (s.lane .a) 0).isSome = true)
    ∧ (1 ≤ s.path.sequence → s.laneBExists = true → (slotAt (s.lane .b) 0).isSome = true)

/-! ### The Add-On Calculator (R46, R47, R50, R60) -/

/-- A report register: in UNKNOWN nothing is held, otherwise both values are, in their ranges; the age timer runs
exactly in FRESH (the table of section 3.1). -/
def Report.legal (r : Report) : Bool :=
  (if r.state = .unknown then r.concentration.isNone && r.density.isNone
   else r.concentration.any (fun c => decide (c ≤ 300)) && r.density.any (within 900 1400))
  && (r.age.isSome == (r.state == .fresh))

/-- The pickup windows hold at most W entries, the pulse counts stay within 16 bits, and the report registers are
legal. -/
def State.addOnLegal (s : State) : Prop :=
  s.addOn.windows.a.length ≤ s.style.yarn.window ∧ s.addOn.windows.b.length ≤ s.style.yarn.window
    ∧ s.path.segments.a.pulses ≤ Config.maxWord ∧ s.path.segments.b.pulses ≤ Config.maxWord
    ∧ s.addOn.reports.a.legal = true ∧ s.addOn.reports.b.legal = true

/-! ### The Box Control Unit (R66, R87, R89, R95) -/

/-- A roll channel's depth condition is the one its state, its position and the dip depth give, and the immersion flag
of its box shows immersed except in OUT (R66, R89); the completion slot is empty while a move or home is in flight
(R95). -/
def State.rollLegal (s : State) (x : Box) : Prop :=
  (s.roll x).depth = depthOf (s.roll x).state (s.roll x).position (s.dip x)
    ∧ (s.soak x).immersed = ((s.roll x).depth != .out)
    ∧ ((s.roll x).state.resetRecord (s.roll x).position ≠ none → (s.roll x).slot = none)

/-- Both commanded pressures and both targets lie within the pressure limit (R87), and both roll channels are legal. -/
def State.boxesLegal (s : State) : Prop :=
  s.boxes.pressure.a.target ≤ s.actuators.pressureLimit ∧ s.boxes.pressure.a.commanded ≤ s.actuators.pressureLimit
    ∧ s.boxes.pressure.b.target ≤ s.actuators.pressureLimit
    ∧ s.boxes.pressure.b.commanded ≤ s.actuators.pressureLimit
    ∧ s.rollLegal .a ∧ s.rollLegal .b

/-! ### The Beam Unit (R107, R115, R119, R121) -/

/-- Fault ranges in the order of their starts, each with a start below its end, none overlapping the next, none beyond
the wound length (R115). -/
def rangesLegal (wound : Nat) : List FaultRange → Bool
  | [] => true
  | [r] => decide (r.start < r.finish ∧ r.finish ≤ wound)
  | r :: q :: rest => decide (r.start < r.finish ∧ r.finish ≤ q.start) && rangesLegal wound (q :: rest)

/-- A beam record: at most 48 fault ranges, legal as R115 promises, and a cut length of 20,000 to 500,000 mm. -/
def BeamRecord.legal (r : BeamRecord) : Bool :=
  decide (r.ranges.length ≤ Config.maxRanges) && rangesLegal r.wound r.ranges && within 20000 500000 r.cutLength
    && decide (r.wound ≤ Config.maxLong)

/-- The beams: at most 12 plan entries, each in range; at most 4 stored records, each closed; the current record not
closed, its cut marks due the whole part of (wound length + marker lead) ÷ cut length (R107). -/
def State.beamsLegal (s : State) : Prop :=
  s.beams.plan.length ≤ Config.maxPlan ∧ (s.beams.plan.all PlanEntry.inRange) = true
    ∧ s.beams.store.length ≤ Config.maxStore
    ∧ (s.beams.store.all fun r => r.legal && r.closeReason.isSome) = true
    ∧ (s.beams.current.all fun o => o.record.legal && o.record.closeReason.isNone
        && o.record.cutsDue == (o.record.wound + s.geometry.markerLead) / o.record.cutLength) = true

/-! ### Ports and arbiter (R136, R140 to R143), and the pending style (R131) -/

/-- No port rests in EXECUTING between two commands, no receive stage stores more than 64 bytes, the lock gap timer
runs only while a lock stands, and the pending style is never the active style. -/
def State.portsLegal (s : State) : Prop :=
  (∀ p, (s.port p).state ≠ .executing)
    ∧ (∀ p f, (s.port p).rx = some f → f.bytes.length ≤ Config.frameLimit)
    ∧ (s.arbiter.lockGap.isSome = true → s.arbiter.lock.isSome = true)
    ∧ s.pendingStyle ≠ some s.settings.active

/-- A legal state of the card. -/
def State.legal (s : State) : Prop :=
  s.settingsLegal ∧ s.lineLegal ∧ s.pathLegal ∧ s.addOnLegal ∧ s.boxesLegal ∧ s.beamsLegal ∧ s.portsLegal

/-! ### The terms of the statements about a master's command -/

/-- The header and the kind of a listed command of a master; none for an event and for UNKNOWN_COMMAND_CODE. -/
def request : Instr → Option (Hdr × CmdKind)
  | .readStatus h => some (h, .readStatus)
  | .readSegment h _ _ => some (h, .readSegment)
  | .find h _ _ _ _ _ => some (h, .find)
  | .selectStyle h _ => some (h, .selectStyle)
  | .readStyle h _ => some (h, .readStyle)
  | .readMachine h _ => some (h, .readMachine)
  | .exchangeEvents h _ => some (h, .exchangeEvents)
  | .setAttentionMask h _ _ => some (h, .setAttentionMask)
  | .snap h _ _ => some (h, .snap)
  | .readSnap h _ _ => some (h, .readSnap)
  | .doff h => some (h, .doff)
  | .closeSet h => some (h, .closeSet)
  | .setTarget h _ => some (h, .setTarget)
  | .clearPath h => some (h, .clearPath)
  | .moveRoll h _ _ _ => some (h, .moveRoll)
  | .homeRoll h _ => some (h, .homeRoll)
  | .collect h _ => some (h, .collect)
  | .resetField h => some (h, .resetField)
  | .reportBox h _ _ _ => some (h, .reportBox)
  | .zoneHeat h _ _ => some (h, .zoneHeat)
  | .writeStyle h _ => some (h, .writeStyle)
  | .activateStyle h _ => some (h, .activateStyle)
  | .writeMachine h _ => some (h, .writeMachine)
  | .writeRoles h _ _ _ _ => some (h, .writeRoles)
  | .storeSettings h => some (h, .storeSettings)
  | .planAppend h _ _ _ => some (h, .planAppend)
  | .planClear h => some (h, .planClear)
  | .releaseBeam h _ => some (h, .releaseBeam)
  | .trackPulse | .feedPulse | .liquorPulse _ | .homeSwitchActive _ _ | .gaugeSample _ | .standstillTimeout
  | .intervalTimerExpiry | .rampTimerExpiry | .ageTimerExpiry _ | .autoLiftExpiry | .fieldResetExpiry
  | .rollStep _ | .jetTimerExpiry _ | .lockGapExpiry | .gapLimitExpiry _ | .frameComplete _ | .frameInError _
  | .frameOverlap _ | .lineBreak _ | .replySent _ | .storeEnd | .retentionMarkWrite | .cardStart _
  | .startUpHoldEnd | .unknownCommandCode _ _ _ _ | .characterReceived _ _ _ _ | .markConditionReturn _ => none

/-- The card takes a command of this port at once: it runs, the start-up hold is over, and no other port holds the
lock (R140, R142, R154, R155). -/
abbrev State.takes (s : State) (p : Port) : Prop := s.power = .running ∧ s.hold = none ∧ s.lockedOut p = false

/-- The card takes a command and its common checks pass: the role is permitted it and the guard holds (R141). -/
abbrev State.admits (s : State) (h : Hdr) (k : CmdKind) : Prop :=
  s.takes h.port ∧ permitted (s.role h.port) k = true ∧ s.guardHolds h.guard = true

/-- The state of a command's effects, answered: the port in REPLYING with the result frame (its attention bit from the
event set and mask the effects leave), nothing queued there, the pointer at the next port, the lock held exactly where
HOLD is set (R138, R140, R142, R145, R158). Nothing else differs from the state of the effects. -/
def State.replied (s : State) (h : Hdr) (status : Status) (data : List Byte) : State :=
  { s with
    ports := s.ports.set h.port { s.port h.port with
      state := .replying
      queued := []
      reply := some ⟨resultFrame h.tag status (s.port h.port).attention data, false⟩ }
    arbiter := ⟨nextPort h.port, if h.hold then some h.port else none, none⟩ }

/-- A depth condition evaluated anew between two states: it is the one that roll state, position and dip depth give; where
it stays, immersion flag and open segment stay; where it changes, the flag follows and the segment of a box in use takes
the cause of the new condition (R66, R89, R90). -/
def State.depthFollows (s t : State) (x : Box) : Prop :=
  (t.roll x).depth = depthOf (t.roll x).state (t.roll x).position (t.dip x)
    ∧ ((t.roll x).depth = (s.roll x).depth → t.soak x = s.soak x ∧ t.segment x = s.segment x)
    ∧ ((t.roll x).depth ≠ (s.roll x).depth →
        t.soak x = { s.soak x with immersed := (t.roll x).depth != .out }
        ∧ t.segment x = { s.segment x with
            causes := (s.segment x).causes ||| (if t.inUse x then depthCause (t.roll x).depth else 0) })

/-- Two states whose ports differ in their event sets alone. -/
def State.eventsOnly (s t : State) : Prop := ∀ p, t.port p = { s.port p with events := (t.port p).events }

/-- Whether a position lies in a zone: the zone is present and its range holds it (R21, R64). -/
abbrev State.zoneHolds (s : State) (z : Zone) (i : Nat) : Bool :=
  (s.zoneRange z).any fun range => decide (range.first ≤ i ∧ i ≤ range.last)

/-- The one zone of lane A or lane B (R19). -/
abbrev laneZone : Box → Zone
  | .a => .predryA
  | .b => .predryB

/-- The zones of the main lane (R19). -/
abbrev mainZones : List Zone := [.main1, .main2, .main3, .main4]

/-- What is due of itself in a state: the end of the start-up hold, the end of a frame a port has received, the command
of the port the arbiter chooses, a timer at its limit, and the 50 ms sample with the current it finds. Where several are
due the manual gives the outcome of either order (log entry 3). -/
inductive Due (s : State) : Instr → Prop where
  /-- The hold has lasted 250 ms (R155). -/
  | holdEnd (t : Nat) : s.hold = some t → 250000 ≤ t → Due s .startUpHoldEnd
  /-- A frame begun in IDLE ended by count and clean (R136). -/
  | frameComplete (p : Port) (f : RxFrame) : (s.port p).rx = some f → f.ended = true → f.begunIdle = true →
      f.clean = true → Due s (.frameComplete p)
  /-- A frame begun in IDLE ended by count and not clean (R137). -/
  | frameInError (p : Port) (f : RxFrame) : (s.port p).rx = some f → f.ended = true → f.begunIdle = true →
      f.clean = false → Due s (.frameInError p)
  /-- A frame begun while the port was not IDLE ended by count (R138). -/
  | frameOverlap (p : Port) (f : RxFrame) : (s.port p).rx = some f → f.ended = true → f.begunIdle = false →
      Due s (.frameOverlap p)
  /-- More than 20 ms since the last character of a frame still being received (R136). -/
  | gapLimit (p : Port) (f : RxFrame) : (s.port p).rx = some f → f.ended = false → 20000 < f.gap →
      Due s (.gapLimitExpiry p)
  /-- The command of the port the arbiter chooses, as its queued frame spells it (R140, R157). -/
  | grant (p : Port) : s.arbitrate = some p → Due s (decodeFrame p (s.port p).queued)
  /-- The standstill timer at its timeout (R7). -/
  | standstill (t : Timer) : s.line.standstill = some t → t.limit ≤ t.elapsed → Due s .standstillTimeout
  /-- The interval timer at 100 ms (R66). -/
  | interval (t : Nat) : s.monitor.interval = some t → 100000 ≤ t → Due s .intervalTimerExpiry
  /-- The ramp timer at 100 ms (R84). -/
  | ramp : 100000 ≤ s.boxes.rampTimer → Due s .rampTimerExpiry
  /-- A box's age timer at the age limit (R47). -/
  | age (x : Box) (t : Nat) : (s.report x).age = some t → s.measurement.ageLimit * 1000000 ≤ t →
      Due s (.ageTimerExpiry x)
  /-- A moving roll at the end of a step period (R88): the step rates added each microsecond reach 1,000,000 (log entry
  14). -/
  | rollStep (x : Box) : (s.roll x).state.inMotion = true → 1000000 ≤ (s.roll x).stepPhase → Due s (.rollStep x)
  /-- The auto-lift timer at its delay (R97). -/
  | autoLift (t : Timer) : s.boxes.autoLift = some t → t.limit ≤ t.elapsed → Due s .autoLiftExpiry
  /-- The field reset timer run out (R100). -/
  | fieldReset : s.boxes.fieldReset = some 0 → Due s .fieldResetExpiry
  /-- The timer of CUT JET run out (R108). -/
  | cutJet : s.beams.cutJet = some 0 → Due s (.jetTimerExpiry .cut)
  /-- The timer of FAULT JET run out (R108). -/
  | faultJet : s.beams.faultJet = some 0 → Due s (.jetTimerExpiry .fault)
  /-- The lock gap timer at the lock gap (R143). -/
  | lockGap (t : Timer) : s.arbiter.lockGap = some t → t.limit ≤ t.elapsed → Due s .lockGapExpiry
  /-- The sampling timer at 50 ms; the current found is a free value (R78, log entry 4). -/
  | sample : 50000 ≤ s.monitor.sampleTimer → Due s (.gaugeSample (Config.loopCurrent s.freeCount))
  /-- A store in flight for 800 ms (R153, log entry 11). -/
  | storeEnd (f : StoreFlight) : s.nv.flight = some f → 800000 ≤ f.elapsed → Due s .storeEnd

/-- The place of a port in the rotation from another, 0 for the port itself (R140). -/
def rotationRank (first p : Port) : Nat := (portCode p + 4 - portCode first) % 4

/-- Commands run one after another, as the queue runs them. -/
def execAll : List Instr → State → Host.Outcome State Fault Refusal
  | [], s => .next s
  | c :: cs, s =>
    match exec c s with
    | .next t => execAll cs t
    | .fault f => .fault f
    | .refused r => .refused r

/-- Every flag of the first event set lies in the second. -/
abbrev flagsWithin (x y : EventSet) : Prop := x &&& y = x

end Sys2Proof.Machine
end

