-- ==== Sys2Proof/WellFormed.lean ====
section
/-! DEFINITION. Which terms of `Instr` stand for something the line can carry: every frame fits its 64 bytes, and a
term of an "other" or "unknown" constructor is not one of the listed forms. -/

namespace Sys2Proof

/-- A WRITE STYLE parameter list that a frame can carry: at most 13 points fit 64 bytes, and "other" names no
listed group (R126, R136). -/
def StyleWrite.wellFormed : StyleWrite → Bool
  | .curve _ points => points.length ≤ 13
  | .other group bytes => (group = 0 || 7 < group.toNat) && bytes.length ≤ 56
  | .yarn .. | .boxes .. | .bands .. | .drying .. | .masks .. => true

/-- A WRITE MACHINE parameter list that a frame can carry; "other" names no listed group (R136, R150). -/
def MachineWrite.wellFormed : MachineWrite → Bool
  | .other group bytes => 4 < group.toNat && bytes.length ≤ 56
  | .geometry _ | .measurement .. | .actuators .. | .beam .. | .ports _ => true

/-- A term that stands for an event of the card or for a frame the line can carry. An UNKNOWN_COMMAND_CODE is a frame
that R157 refuses INVALID. -/
def Instr.wellFormed : Instr → Bool
  | .writeStyle _ w => w.wellFormed
  | .writeMachine _ w => w.wellFormed
  | .unknownCommandCode h code reserved ps =>
    ps.length ≤ 57 && (decodeCommand h code reserved ps).isNone
  | .trackPulse | .feedPulse | .liquorPulse _ | .homeSwitchActive _ _ | .gaugeSample _ | .standstillTimeout
  | .intervalTimerExpiry | .rampTimerExpiry | .ageTimerExpiry _ | .autoLiftExpiry | .fieldResetExpiry
  | .rollStep _ | .jetTimerExpiry _ | .lockGapExpiry | .gapLimitExpiry _ | .frameComplete _ | .frameInError _
  | .frameOverlap _ | .lineBreak _ | .replySent _ | .storeEnd | .retentionMarkWrite | .cardStart _
  | .startUpHoldEnd | .readStatus _ | .readSegment .. | .find .. | .selectStyle .. | .readStyle ..
  | .readMachine .. | .exchangeEvents .. | .setAttentionMask .. | .snap .. | .readSnap .. | .doff _
  | .closeSet _ | .setTarget .. | .clearPath _ | .moveRoll .. | .homeRoll .. | .collect .. | .resetField _
  | .reportBox .. | .zoneHeat .. | .activateStyle .. | .writeRoles .. | .storeSettings _ | .planAppend ..
  | .planClear _ | .releaseBeam .. | .characterReceived .. | .markConditionReturn _ => true

end Sys2Proof
end

