-- ==== Sys2Proof/Certificates/Slice0/Obligations.lean ====
section
/-! DEFINITION. The statements for the provers. A statement about a master's command names the state of its effects and
`State.replied` adds the answer: the result frame, the pointer and the lock; whatever a statement's next state does not
name is as it was. -/

open Sys2Proof Sys2Proof.Machine

/-! ### The step -/

/-- The command at the front of the queue is run on the state with the queue's rest (the model's queue, log entry 2). -/
def Obligations.StepRunsFrontCommand : Prop :=
  ∀ (c : Instr) (rest : List Instr) (s : State), s.pending = c :: rest →
    step s = exec c { s with pending := rest }

/-- On an empty queue a held card stands still; a running card runs what is due, and else lets one microsecond pass (log
entry 3: the model's choice). What is run is due: the end of the hold at 250 ms, the row of a frame that has ended, the
command of the port the arbiter chooses as its queued frame spells it, a timer at its limit, the 50 ms sample. Where
anything is due something is run, and what alone is due is what is run. The microsecond moves the timebase, the hold and
every running timer by one, a moving roll's step period by the step rate, and nothing else. Model's choices too: a step
is due where the rates added up reach 1,000,000 (log entry 14), the current of the sample is a free value (log entry
4), and a store ends by itself at 800 ms (log entry 11). -/
def Obligations.IdleStepRunsWhatIsDueOrTicks : Prop :=
  ∀ s : State, s.pending = [] →
    (s.power = .held → step s = .next s)
    ∧ (s.power = .running → ∀ i, s.dueCommand = some i → step s = exec i { s with freeCount := s.freeCount + 1 })
    ∧ (∀ i, s.dueCommand = some i → Due s i)
    ∧ (∀ i, Due s i → s.dueCommand.isSome = true ∧ ((∀ j, Due s j → j = i) → s.dueCommand = some i))
    ∧ (s.power = .running → s.dueCommand = none →
        let run (t : Timer) : Timer := { t with elapsed := t.elapsed + 1 }
        let age (r : Report) : Report := { r with age := r.age.map (· + 1) }
        let turn (r : RollChannel) : RollChannel :=
          if r.state.inMotion then { r with stepPhase := r.stepPhase + s.actuators.stepRate } else r
        step s = .next { s with
          hold := s.hold.map (· + 1)
          line := { s.line with timebase := s.line.timebase + 1, standstill := s.line.standstill.map run }
          addOn := { s.addOn with reports := ⟨age s.addOn.reports.a, age s.addOn.reports.b⟩ }
          monitor := { s.monitor with
            interval := s.monitor.interval.map (· + 1), sampleTimer := s.monitor.sampleTimer + 1 }
          boxes := { s.boxes with
            rampTimer := s.boxes.rampTimer + 1
            rolls := ⟨turn s.boxes.rolls.a, turn s.boxes.rolls.b⟩
            autoLift := s.boxes.autoLift.map run
            fieldReset := s.boxes.fieldReset.map (· - 1) }
          beams := { s.beams with cutJet := s.beams.cutJet.map (· - 1), faultJet := s.beams.faultJet.map (· - 1) }
          nv := { s.nv with flight := s.nv.flight.map fun f => { f with elapsed := f.elapsed + 1 } }
          ports := s.ports.map fun u => { u with rx := u.rx.map fun f => { f with gap := f.gap + 1 } }
          arbiter := { s.arbiter with lockGap := s.arbiter.lockGap.map run } })

/-- No command stops the card, and none touches the queue. -/
def Obligations.EveryCommandHasANextState : Prop :=
  ∀ (c : Instr) (s : State), ∃ t, exec c s = .next t ∧ t.pending = s.pending

/-! ### Grant, checks, answer and lock (chapter 8) -/

/-- The common checks in their order: INVALID for a frame that spells no listed command, before anything else;
NOT_PERMITTED for a role without the command; SKIPPED for a false guard. Each leaves no effect and carries no data. -/
def Obligations.CommonChecksRefuseInOrder : Prop :=
  (∀ (h : Hdr) (code : Byte) (reserved : BitVec 4) (params : List Byte) (s : State), s.takes h.port →
      exec (.unknownCommandCode h code reserved params) s = .next (s.replied h .invalid []))
  ∧ ∀ (c : Instr) (h : Hdr) (k : CmdKind) (s : State), request c = some (h, k) → s.takes h.port →
      (permitted (s.role h.port) k = false → exec c s = .next (s.replied h .notPermitted []))
      ∧ (permitted (s.role h.port) k = true → s.guardHolds h.guard = false →
          exec c s = .next (s.replied h .skipped []))

/-- A master's command taken while another port holds the lock changes nothing outside its own port; an idle port that
has a role is then QUEUED with the command's frame. That a command placed behind a lock waits in its port, as the
frame it came in, is the model's choice (log entry 10, DESIGN CHOICE). -/
def Obligations.LockKeepsOtherPortsWaiting : Prop :=
  ∀ (c : Instr) (f : FrameParts) (s : State) (holder : Port), c.parts = some f →
    s.power = .running → s.hold = none → s.arbiter.lock = some holder → holder ≠ f.hdr.port →
    (∃ u, exec c s = .next (s.setPort f.hdr.port u))
    ∧ ((s.port f.hdr.port).state = .idle → s.role f.hdr.port ≠ .none →
        exec c s = .next (s.setPort f.hdr.port
          { s.port f.hdr.port with state := .queued, queued := c.frame }))

/-- Every granted command is answered: its port leaves EXECUTING for REPLYING with a result frame that echoes the tag
and carries the attention bit of the event set and mask as the effects leave them, without data unless it completes OK,
CLAMPED, STARTED or LATE; the pointer moves to the next port; the lock follows the HOLD flag, except that a port whose
own role the command changed holds none. -/
def Obligations.EveryGrantedCommandIsAnswered : Prop :=
  ∀ (c : Instr) (f : FrameParts) (s : State), c.parts = some f → s.takes f.hdr.port →
    ∃ t status data, exec c s = .next t
      ∧ (t.port f.hdr.port).state = .replying
      ∧ (t.port f.hdr.port).queued = []
      ∧ (t.port f.hdr.port).reply
          = some ⟨resultFrame f.hdr.tag status (t.port f.hdr.port).attention data, false⟩
      ∧ (status ≠ .ok → status ≠ .clamped → status ≠ .started → status ≠ .late → data = [])
      ∧ t.arbiter.pointer = nextPort f.hdr.port
      ∧ t.arbiter.lockGap = none
      ∧ t.arbiter.lock
          = (if f.hdr.hold = true ∧ t.role f.hdr.port = s.role f.hdr.port then some f.hdr.port else none)

/-- The arbiter's choice, with the urgent class judged from the code byte of the waiting frame (log entry 16, DEDUCED):
under a lock the holder alone; without one the first LINE port met in rotation that holds an urgent command;
otherwise the first QUEUED port met in rotation from the pointer; none when none waits. -/
def Obligations.ArbiterChoosesByLockUrgencyRotation : Prop :=
  ∀ s : State,
    (∀ holder, s.arbiter.lock = some holder →
      s.arbitrate = if (s.port holder).state = .queued then some holder else none)
    ∧ (s.arbiter.lock = none → ∀ p, s.waitsUrgent p = true →
        ∃ q, s.arbitrate = some q ∧ s.waitsUrgent q = true
          ∧ ∀ r, s.waitsUrgent r = true → rotationRank s.arbiter.pointer q ≤ rotationRank s.arbiter.pointer r)
    ∧ (s.arbiter.lock = none → (∀ p, s.waitsUrgent p = false) → ∀ p, (s.port p).state = .queued →
        ∃ q, s.arbitrate = some q ∧ (s.port q).state = .queued
          ∧ ∀ r, (s.port r).state = .queued →
              rotationRank s.arbiter.pointer q ≤ rotationRank s.arbiter.pointer r)
    ∧ (s.arbiter.lock = none → (∀ p, (s.port p).state ≠ .queued) → s.arbitrate = none)

/-! ### Frames (chapter 10) -/

/-- The frame of a well-formed command is 7 to 64 bytes long, begins with the lead byte and its own length, carries a
matching check word, and is decoded at its grant as that command, every operand at every value. A WRITE STYLE or
WRITE MACHINE of an unlisted group is decoded so at any length (log entry 8, DESIGN CHOICE). -/
def Obligations.DecodeReadsWhatEncodeWrites : Prop :=
  ∀ (c : Instr) (f : FrameParts), c.wellFormed = true → c.parts = some f →
    7 ≤ c.frame.length ∧ c.frame.length ≤ 64
    ∧ c.frame[0]? = some 0xB4#8
    ∧ (c.frame[1]?).map BitVec.toNat = some c.frame.length
    ∧ checkWordMatches c.frame = true
    ∧ decodeFrame f.hdr.port c.frame = c

/-- A clean frame received character by character on an idle port is queued whole, and stops the holder's lock gap
timer: for every frame of 7 to 64 bytes that begins with the lead byte and its length and ends with a matching check
word. -/
def Obligations.CleanFrameIsQueued : Prop :=
  ∀ (s : State) (p : Port) (frame : List Byte), s.power = .running → s.hold = none → s.role p ≠ .none →
    (s.port p).state = .idle → (s.port p).rx = none → (s.port p).inBreak = false →
    7 ≤ frame.length → frame.length ≤ 64 → frame[0]? = some 0xB4#8 →
    (frame[1]?).map BitVec.toNat = some frame.length → checkWordMatches frame = true →
    execAll (frame.map (fun b => .characterReceived p b false false) ++ [.frameComplete p]) s
      = .next { s.setPort p { s.port p with state := .queued, queued := frame } with
          arbiter := if s.arbiter.lock = some p then { s.arbiter with lockGap := none } else s.arbiter }

/-- A character on a receive stage that holds no frame begins one when it is an error-free lead byte, with the port
entering RECEIVING from IDLE alone, and is discarded otherwise; on a frame that has not ended by count it is counted,
stored within 64 bytes, and restarts the gap timing; during the start-up hold and within a break it is ignored. -/
def Obligations.CharactersAreAssembled : Prop :=
  ∀ (s : State) (p : Port) (b : Byte) (parity framing : Bool), s.power = .running →
    ((s.hold.isSome = true ∨ (s.port p).inBreak = true) → exec (.characterReceived p b parity framing) s = .next s)
    ∧ (s.hold = none → (s.port p).inBreak = false →
        ((s.port p).rx = none →
          (b = 0xB4#8 → parity = false → framing = false →
            exec (.characterReceived p b parity framing) s = .next (s.setPort p { s.port p with
              rx := some ⟨decide ((s.port p).state = .idle), [b], 1, false, false, 0⟩
              state := if (s.port p).state = .idle then .receiving else (s.port p).state }))
          ∧ ((b ≠ 0xB4#8 ∨ parity = true ∨ framing = true) →
            exec (.characterReceived p b parity framing) s = .next s))
        ∧ (∀ f, (s.port p).rx = some f → f.ended = false →
          exec (.characterReceived p b parity framing) s = .next (s.setPort p { s.port p with
            rx := some { f with
              bytes := if f.bytes.length < 64 then f.bytes ++ [b] else f.bytes
              count := f.count + 1
              framing := f.framing || framing
              parity := f.parity || parity
              gap := 0 } })))

/-- How a frame ends. On a port whose role is NONE each frame is discarded, clean or in error, without reply or event; a
port in which it began returns to IDLE. On a port that has a role: begun in IDLE, ended by count and clean: QUEUED.
Begun in IDLE and not clean, or cut off by the gap limit: answered LINK_ERROR by the port itself, with the first
cause that applies. Begun while the port was not IDLE: discarded, with OVERLAP to that port alone. A discarded frame of
a lock holder without a role leaves its lock gap timer running (log entry 24, DESIGN CHOICE), and a frame ends by
the length byte as received, in error or not (log entry 20, DEDUCED). -/
def Obligations.FrameEndsQueueAnswerOrOverlap : Prop :=
  (∀ (s : State) (p : Port) (f : RxFrame), s.power = .running → s.hold = none → s.role p = .none →
    (s.port p).rx = some f →
    let dropped : State := s.setPort p { s.port p with
      rx := none, state := if f.begunIdle then .idle else (s.port p).state }
    (f.begunIdle = true → f.ended = true → f.clean = true → exec (.frameComplete p) s = .next dropped)
    ∧ (f.begunIdle = true → f.ended = true → f.clean = false → exec (.frameInError p) s = .next dropped)
    ∧ (f.begunIdle = false → f.ended = true → exec (.frameOverlap p) s = .next dropped)
    ∧ (f.ended = false → exec (.gapLimitExpiry p) s = .next dropped))
  ∧ ∀ (s : State) (p : Port) (f : RxFrame), s.power = .running → s.hold = none → s.role p ≠ .none →
    (s.port p).rx = some f →
    let refused (cause : Byte) : State := s.setPort p { s.port p with
      rx := none
      state := .replying
      reply := some ⟨resultFrame ((f.bytes[2]?).getD 0) .linkError (s.port p).attention [cause], true⟩ }
    let lapped : State := s.setPort p { s.port p with
      rx := none, events := (s.port p).events ||| Flag.overlap.set }
    let badLength : Prop := ∃ n, f.bytes[1]? = some n ∧ (n.toNat < 7 ∨ 64 < n.toNat)
    (f.begunIdle = true → f.ended = true → f.clean = true →
      exec (.frameComplete p) s = .next { s.setPort p { s.port p with rx := none, state := .queued, queued := f.bytes } with
        arbiter := if s.arbiter.lock = some p then { s.arbiter with lockGap := none } else s.arbiter })
    ∧ (f.begunIdle = true → f.ended = true → f.clean = false →
        (f.framing = true → exec (.frameInError p) s = .next (refused 1))
        ∧ (f.framing = false → f.parity = true → exec (.frameInError p) s = .next (refused 2))
        ∧ (f.framing = false → f.parity = false → badLength → exec (.frameInError p) s = .next (refused 3))
        ∧ (f.framing = false → f.parity = false → ¬badLength → exec (.frameInError p) s = .next (refused 5)))
    ∧ (f.begunIdle = true → f.ended = false →
        (f.framing = true → exec (.gapLimitExpiry p) s = .next (refused 1))
        ∧ (f.framing = false → f.parity = true → exec (.gapLimitExpiry p) s = .next (refused 2))
        ∧ (f.framing = false → f.parity = false → badLength → exec (.gapLimitExpiry p) s = .next (refused 3))
        ∧ (f.framing = false → f.parity = false → ¬badLength → exec (.gapLimitExpiry p) s = .next (refused 4)))
    ∧ (f.begunIdle = false → f.ended = true → exec (.frameOverlap p) s = .next lapped)
    ∧ (f.begunIdle = false → f.ended = false → exec (.gapLimitExpiry p) s = .next lapped)

/-- A break resets its port in whatever state it stands and releases its lock; nothing else changes. The return of the
mark condition lets the port take characters again.
The end of a reply returns the port to IDLE and starts the lock gap timer for the holder, but not after an answer to
a frame in error. The expiry of that timer releases the lock and posts LOCK_BROKEN to the former holder alone. -/
def Obligations.BreakReplyEndAndLockGapExpiry : Prop :=
  (∀ (s : State) (p : Port), s.power = .running →
      (s.hold = none →
        exec (.lineBreak p) s = .next { s with
          ports := s.ports.set p {
            state := .idle, rx := none, queued := [], inBreak := true, reply := none, events := 0
            mask := if (s.port p).keep then (s.port p).mask else 0xFFFF#16
            keep := (s.port p).keep, snapshot := none, selected := 0 }
          arbiter := if s.arbiter.lock = some p then { s.arbiter with lock := none, lockGap := none } else s.arbiter })
      ∧ exec (.markConditionReturn p) s = .next (s.setPort p { s.port p with inBreak := false }))
  ∧ ∀ (s : State) (p : Port), s.power = .running →
    (∀ r, (s.port p).reply = some r →
      exec (.replySent p) s = .next { s.setPort p { s.port p with state := .idle, reply := none } with
        arbiter := if r.linkError = false ∧ s.arbiter.lock = some p then
            { s.arbiter with lockGap := some ⟨0, s.settings.machine.lockGap * 1000⟩ }
          else s.arbiter })
    ∧ (s.arbiter.lock = some p → s.arbiter.lockGap.isSome = true →
        exec .lockGapExpiry s = .next { s.setPort p { s.port p with
            events := (s.port p).events ||| Flag.lockBroken.set } with
          arbiter := { s.arbiter with lock := none, lockGap := none } })

/-- READ STATUS returns 38 bytes of status as it stands when it executes, and changes nothing but the answer. -/
def Obligations.ReadStatusReturnsStatusAndChangesNothing : Prop :=
  ∀ (h : Hdr) (s : State), s.statusBytes.length = 38
    ∧ (s.admits h .readStatus → exec (.readStatus h) s = .next (s.replied h .ok s.statusBytes))

/-- EXCHANGE EVENTS returns the port's own set as it stands and removes the flags of the clear mask, in one execution. -/
def Obligations.ExchangeEventsTakesAndClears : Prop :=
  ∀ (h : Hdr) (clear : Word) (s : State), s.admits h .exchangeEvents →
    exec (.exchangeEvents h clear) s
      = .next ((s.setPort h.port { s.port h.port with events := (s.port h.port).events &&& ~~~clear }).replied h .ok
          (be16 (s.port h.port).events))

/-- SET ATTENTION MASK replaces the port's mask and KEEP mark and returns mask and event set; a KEEP setting other than
0 and 1 is refused RANGE. The attention line is active exactly when event set and mask share a flag and no start-up hold
runs. -/
def Obligations.SetAttentionMaskSetsMaskAndKeep : Prop :=
  (∀ (h : Hdr) (mask : Word) (keep : Byte) (s : State), s.admits h .setAttentionMask →
    (keep = 0 ∨ keep = 1 →
      exec (.setAttentionMask h mask keep) s
        = .next ((s.setPort h.port { s.port h.port with mask := mask, keep := decide (keep = 1) }).replied h .ok
            (be16 mask ++ be16 (s.port h.port).events)))
    ∧ (keep ≠ 0 → keep ≠ 1 → exec (.setAttentionMask h mask keep) s = .next (s.replied h .range [])))
  ∧ ∀ (s : State) (p : Port),
      s.attentionLine p = true ↔ (∃ i, (s.port p).events.getLsbD i = true ∧ (s.port p).mask.getLsbD i = true) ∧ s.hold = none

/-- SNAP copies the beam or plan it names into the port's own snapshot and returns kind, beam number and count; a beam
or age that is not held completes NONE, an age above 3 or an unknown source is refused RANGE. READ SNAP returns the
part asked for from that copy, changes nothing, and refuses RANGE or completes NONE as the table of R149 gives. -/
def Obligations.SnapCopiesAndReadSnapReads : Prop :=
  ∀ (h : Hdr) (s : State),
    (∀ source age : Byte, s.admits h .snap →
      let copied (c : Snapshot) : Host.Outcome State Fault Refusal :=
        .next ((s.setPort h.port { s.port h.port with snapshot := some c }).replied h .ok c.summary)
      (source = 0 → exec (.snap h source age) s
        = match s.beams.current with
          | some o => copied (.beam o.record)
          | none => .next (s.replied h .none []))
      ∧ (source = 1 → age.toNat ≤ 3 → exec (.snap h source age) s
        = match s.beams.store.reverse[age.toNat]? with
          | some r => copied (.beam r)
          | none => .next (s.replied h .none []))
      ∧ (source = 2 → exec (.snap h source age) s = copied (.plan s.beams.plan))
      ∧ ((source = 1 ∧ 3 < age.toNat) ∨ 2 < source.toNat → exec (.snap h source age) s = .next (s.replied h .range [])))
    ∧ (∀ part start : Byte, s.admits h .readSnap →
      let answers (data : List Byte) : Prop := exec (.readSnap h part start) s = .next (s.replied h .ok data)
      let outOfRange : Prop := exec (.readSnap h part start) s = .next (s.replied h .range [])
      (2 < part.toNat → outOfRange)
      ∧ (part.toNat ≤ 2 → (s.port h.port).snapshot = none →
          exec (.readSnap h part start) s = .next (s.replied h .none []))
      ∧ (∀ r, (s.port h.port).snapshot = some (.beam r) →
          (part = 0 → answers (u8 0 ++ flag8 (r.ranges.length == 0) ++ r.header))
          ∧ (part = 1 → start.toNat ≤ r.ranges.length → answers (itemsFrom r.ranges start.toNat 4 FaultRange.bytes))
          ∧ (part = 1 → r.ranges.length < start.toNat → outOfRange)
          ∧ (part = 2 → outOfRange))
      ∧ (∀ es, (s.port h.port).snapshot = some (.plan es) →
          (part = 0 → answers (u8 0 ++ flag8 (es.length == 0) ++ u8 es.length))
          ∧ (part = 2 → start.toNat ≤ es.length → answers (itemsFrom es start.toNat 6 PlanEntry.bytes))
          ∧ (part = 2 → es.length < start.toNat → outOfRange)
          ∧ (part = 1 → outOfRange)))

/-- What a port keeps for its master changes only by that master's own doing, a break on that port, or a start: an event
flag once posted stays until the port's own EXCHANGE EVENTS, and mask, KEEP mark, snapshot and selected style change
only by the port's own SET ATTENTION MASK, SNAP and SELECT STYLE. -/
def Obligations.PortStateIsPrivate : Prop :=
  ∀ (c : Instr) (s t : State) (p : Port), exec c s = .next t → c ≠ .lineBreak p → (∀ r, c ≠ .cardStart r) →
    ((∀ h m, c = .exchangeEvents h m → h.port ≠ p) → flagsWithin (s.port p).events (t.port p).events)
    ∧ ((∀ h m k, c = .setAttentionMask h m k → h.port ≠ p) →
        (t.port p).mask = (s.port p).mask ∧ (t.port p).keep = (s.port p).keep)
    ∧ ((∀ h a b, c = .snap h a b → h.port ≠ p) → (t.port p).snapshot = (s.port p).snapshot)
    ∧ ((∀ h i, c = .selectStyle h i → h.port ≠ p) → (t.port p).selected = (s.port p).selected)

/-! ### Length, speed and LINE STATE (chapter 1) -/

/-- A TRACK PULSE does its line-state work, keeps the residue, and handles its whole millimetres one after another: each
adds one to the track counter, is handed to the Beam Unit, and raises the boundary distance by one, which at 200
returns to 0 and issues a boundary. It restarts the standstill timer at the timeout of the machine table, latches
the timebase, and leaves the line in CRAWL or RUN; it leaves the feed side, the settings, the pressure channels, the
roll positions and completion slots, the plan, the completed store, the banks, the arbiter and of the ports all but
the event sets as they were. -/
def Obligations.TrackPulseCountsItsLength : Prop :=
  ∀ s : State, s.power = .running →
    let travel := s.line.trackResidue + s.measurement.trackWeight
    let millimetre (v : State) : State :=
      let w := ({ v with line := { v.line with track := v.line.track + 1 } }).woundMillimetre
      if w.line.distance + 1 < 200 then { w with line := { w.line with distance := w.line.distance + 1 } }
      else ({ w with line := { w.line with distance := 0 } }).boundary
    ∃ t, exec .trackPulse s = .next t
      ∧ t = millimetre^[travel / 1000] { s.trackLineWork with
          line := { s.trackLineWork.line with trackResidue := travel % 1000 } }
      ∧ t.line.trackResidue = travel % 1000
      ∧ t.line.track = s.line.track + BitVec.ofNat 32 (travel / 1000)
      ∧ t.line.lastCapture = some s.line.timebase
      ∧ t.line.standstill = some ⟨0, s.measurement.standstillTimeout * 1000⟩
      ∧ t.line.lineState ≠ .stopped
      ∧ t.line.feed = s.line.feed ∧ t.line.feedResidue = s.line.feedResidue ∧ t.line.timebase = s.line.timebase
      ∧ t.settings = s.settings ∧ t.pendingStyle = s.pendingStyle ∧ t.nv = s.nv ∧ t.arbiter = s.arbiter
      ∧ t.power = s.power ∧ t.hold = s.hold ∧ t.mark = s.mark ∧ t.startKind = s.startKind
      ∧ t.boxes.pressure = s.boxes.pressure ∧ t.boxes.fieldReset = s.boxes.fieldReset
      ∧ t.beams.plan = s.beams.plan ∧ t.beams.store = s.beams.store
      ∧ t.addOn.reports = s.addOn.reports ∧ t.monitor.gauge = s.monitor.gauge ∧ t.monitor.regain = s.monitor.regain
      ∧ s.eventsOnly t ∧ ∀ x, (t.roll x).position = (s.roll x).position ∧ (t.roll x).slot = (s.roll x).slot

/-- Speed and LINE STATE after a TRACK PULSE. The first after a standstill leaves CRAWL with speed 0 and forms no
period. Any later one adds the time since the last capture, at least 1 µs, to the ring of at most 8 periods,
computes the speed from the ring, rounded half up and at most 3000, and compares it with the crawl threshold and the
hysteresis. The line-state work, made before any millimetre is counted, is that change of LINE STATE with the latch
of the timebase and the standstill timer started anew at the timeout of the machine table. -/
def Obligations.SpeedAndLineStateFollowPeriods : Prop :=
  ∀ s : State, s.power = .running →
    let started (u : State) : State := { u with line := { u.line with
      lastCapture := some s.line.timebase, standstill := some ⟨0, s.measurement.standstillTimeout * 1000⟩ } }
    (s.line.lineState = .stopped →
      s.trackLineWork = started (({ s with line := { s.line with speed := 0 } } : State).changeLineState .crawl))
    ∧ ∃ t, exec .trackPulse s = .next t
      ∧ (s.line.lineState = .stopped →
          t.line.lineState = .crawl ∧ t.line.speed = 0 ∧ t.line.periods = s.line.periods)
      ∧ (∀ last, s.line.lineState ≠ .stopped → s.line.lastCapture = some last →
          let joined := s.line.periods ++ [max 1 (s.line.timebase - last).toNat]
          let ring := joined.drop (joined.length - 8)
          t.line.periods = ring
          ∧ t.line.speed = min (roundHalfUp (600 * s.measurement.trackWeight * ring.length) ring.sum) 3000
          ∧ (s.line.lineState = .crawl →
              t.line.lineState = if s.style.bands.crawlThreshold ≤ t.line.speed then .run else .crawl)
          ∧ (s.line.lineState = .run →
              t.line.lineState = if t.line.speed < s.style.bands.crawlThreshold - s.measurement.hysteresis
                then .crawl else .run)
          ∧ s.trackLineWork = started (({ s with line := { s.line with
              periods := ring, speed := t.line.speed } } : State).changeLineState t.line.lineState))

/-- A FEED PULSE adds the feed weight to its residue and each whole 1,000 µm to the feed counter, and nothing else.
The standstill timeout in CRAWL or RUN: speed 0, STOPPED, the ring empty, no capture, no timer; announced to the
Monitor (interval timer from 0), the Box Control Unit (auto-lift timer, if the delay is above 0) and the Beam Unit (one
stop more on an open beam, at most 65,535). In STOPPED the timer does not run and nothing happens. -/
def Obligations.FeedPulseCountsAndStandstillStops : Prop :=
  (∀ s : State, s.power = .running →
      ∃ t, exec .feedPulse s = .next t
        ∧ t.line.feedResidue < 1000
        ∧ t.line.feedResidue + 1000 * ((s.line.feedResidue + s.measurement.feedWeight) / 1000)
            = s.line.feedResidue + s.measurement.feedWeight
        ∧ t.line.feed
            = s.line.feed + BitVec.ofNat 32 ((s.line.feedResidue + s.measurement.feedWeight) / 1000)
        ∧ t = { s with line := { s.line with feed := t.line.feed, feedResidue := t.line.feedResidue } })
  ∧ ∀ s : State, s.power = .running →
    (s.line.lineState ≠ .stopped →
      exec .standstillTimeout s = .next { s with
        line := { s.line with
          speed := 0, lineState := .stopped, periods := [], lastCapture := none, standstill := none }
        monitor := { s.monitor with interval := some 0 }
        boxes := { s.boxes with autoLift :=
          if 0 < s.actuators.autoLiftDelay then some ⟨0, s.actuators.autoLiftDelay * 1000000⟩ else none }
        beams := { s.beams with current := s.beams.current.map fun o =>
          { o with record := { o.record with stops := min (o.record.stops + 1) 65535 } } } })
    ∧ (s.line.lineState = .stopped → exec .standstillTimeout s = .next s)

/-- A change of LINE STATE and its announcements. Leaving STOPPED, the Monitor stops its interval timer, sets each soak
timer to 0, clears its crossed mark and keeps the soak-pending counts; each record in a present zone gains the
zone's accumulator as dwell, at most 65,535, and keeps its other fields, in lanes A and B and in the main lane, and
records outside the zones gain nothing; accumulators and marks are cleared and the heat flags kept; the auto-lift
timer stops, and with auto-dip set the roll of each box in use that stands in IDLE below depth, or is in AUTO_LIFT,
begins AUTO_LOWER toward the dip depth or the travel. On becoming CRAWL, from STOPPED or from RUN, the open segment
of each box in use takes CRAWL. From CRAWL to RUN nothing but LINE STATE changes. -/
def Obligations.LeavingStoppedClearsSoakAndAppliesDwell : Prop :=
  (∀ (s : State) (new : LineState), s.line.lineState = .stopped → new ≠ .stopped →
    let t := s.changeLineState new
    t = { s with
      line := { s.line with lineState := new }
      monitor := { s.monitor with interval := none, soak := t.monitor.soak, zones := t.monitor.zones }
      path := { s.path with lanes := t.path.lanes, main := t.path.main, segments := t.path.segments }
      boxes := { s.boxes with rolls := t.boxes.rolls, autoLift := none } }
    ∧ (∀ x, t.soak x = { s.soak x with timer := 0, crossed := false })
    ∧ (∀ z, t.monitor.zones.get z = { s.monitor.zones.get z with accumulator := 0, crossed := false })
    ∧ (∀ (x : Box) (i : Nat), (t.lane x)[i]? = (s.lane x)[i]?.map fun slot => slot.map fun r =>
        if s.zoneHolds (laneZone x) i then
          { r with dwell := if (s.monitor.zones.get (laneZone x)).accumulator = 0 then r.dwell
              else min (r.dwell + (s.monitor.zones.get (laneZone x)).accumulator) 65535 }
        else r)
    ∧ (∀ i : Nat, t.path.main[i]? = s.path.main[i]?.map fun slot => slot.map fun r =>
        mainZones.foldl (fun r z => if s.zoneHolds z i then
          { r with dwell := if (s.monitor.zones.get z).accumulator = 0 then r.dwell
              else min (r.dwell + (s.monitor.zones.get z).accumulator) 65535 } else r) r)
    ∧ (∀ x, t.segment x = { s.segment x with
        causes := (s.segment x).causes ||| (if new = .crawl ∧ s.inUse x = true then Cause.crawl.set else 0) })
    ∧ (∀ x, t.roll x = if s.actuators.autoDip = true ∧ s.inUse x = true
          ∧ ((s.roll x).state = .idle ∧ (s.roll x).position + 10 < s.dip x ∨ (s.roll x).state = .autoLift) then
        { s.roll x with state := .autoLower (min (s.dip x) s.actuators.travel), stepPhase := 0 } else s.roll x))
  ∧ (∀ s : State, s.line.lineState = .run → ∃ t, s.changeLineState .crawl = t
      ∧ t = { s with
          line := { s.line with lineState := .crawl }
          path := { s.path with segments := t.path.segments } }
      ∧ ∀ x, t.segment x = { s.segment x with
          causes := (s.segment x).causes ||| (if s.inUse x = true then Cause.crawl.set else 0) })
  ∧ ∀ s : State, s.line.lineState = .crawl →
      s.changeLineState .run = { s with line := { s.line with lineState := .run } }

/-- The stretch request of a boundary takes T as 200 mm for each entry of the ring and F as the feed counter less the
oldest entry, and places the feed counter in the ring of at most 16. With an empty ring the stretch is absent and
the detail as it was; with no feed travel it is absent, FEED_SILENT is set, and INPUT_FAULT is posted to every port
when it was clear; otherwise it is present and FEED_SILENT clear, with nothing posted. The stretch of T mm of track
over F mm of feed is (T − F) × 10,000 ÷ F rounded half away from zero, held to −999 and +999. A present stretch
above the limit of the active style carries STRETCH_HIGH into the lane record a close forms; a stretch at or below
the limit, a negative one or an absent one carries no cause. -/
def Obligations.StretchIsRoundedAndMarkedAboveLimit : Prop :=
  (∀ s : State,
    let pushed (silent : Bool) : State := { s with line := { s.line with
      feedSilent := silent
      stretchRing := (s.line.stretchRing ++ [s.line.feed]).drop (s.line.stretchRing.length + 1 - 16) } }
    (s.line.stretchRing = [] → s.line.stretch = none ∧ s.takeStretch = pushed s.line.feedSilent)
    ∧ ∀ oldest rest, s.line.stretchRing = oldest :: rest →
      let f := (s.line.feed - oldest).toNat
      (f = 0 → s.line.stretch = none
        ∧ s.takeStretch = { pushed true with
            ports := if s.line.feedSilent then s.ports
              else s.ports.map fun u => { u with events := u.events ||| Flag.inputFault.set } })
      ∧ (0 < f → s.line.stretch = some (stretchFigure (200 * (rest.length + 1)) f) ∧ s.takeStretch = pushed false))
  ∧ (∀ t f : Nat, 0 < f →
    let n : Int := ((t : Int) - f) * 10000
    let q := stretchFigure t f
    q ≤ 999 ∧ -999 ≤ q
    ∧ (2 * n < 1999 * f → -(1999 * (f : Int)) < 2 * n →
        (0 ≤ n → 2 * n - f < 2 * q * f ∧ 2 * q * f ≤ 2 * n + f)
        ∧ (n ≤ 0 → 2 * n - f ≤ 2 * q * f ∧ 2 * q * f < 2 * n + f))
    ∧ (1999 * (f : Int) ≤ 2 * n → q = 999)
    ∧ (2 * n ≤ -(1999 * (f : Int)) → q = -999))
  ∧ ∀ (s : State) (x : Box) (stretch : Option Int),
    let r := (s.closeSegment x stretch).record
    r.stretch = stretch
    ∧ (∀ v, stretch = some v → (s.style.bands.stretchLimit : Int) < v → shares r.causes Cause.stretchHigh.set = true)
    ∧ ((∀ v, stretch = some v → v ≤ (s.style.bands.stretchLimit : Int)) →
        shares r.causes Cause.stretchHigh.set = shares (s.segment x).causes Cause.stretchHigh.set)

/-! ### The sheet path (chapter 2) -/

/-- CLEAR PATH, permitted to LINE and STATION, in STOPPED: every slot untracked at the depths in force, the sequence
counter 0, the path origin at the track counter, the boundary distance 0, the stretch ring and both windows empty,
each existing open segment empty but for the causes standing at its opening; nothing else is touched. In CRAWL or
RUN it is refused NOT_STOPPED. -/
def Obligations.ClearPathForgetsTheSheet : Prop :=
  (∀ r, permitted r .clearPath = true ↔ r = .line ∨ r = .station)
  ∧ ∀ (h : Hdr) (s : State), s.admits h .clearPath →
    (s.line.lineState ≠ .stopped → exec (.clearPath h) s = .next (s.replied h .notStopped []))
    ∧ (s.line.lineState = .stopped →
        let opened (x : Box) : OpenSegment := ⟨0, if s.inUse x then
          causeIf ((s.roll x).depth == .out) .lift ||| causeIf ((s.roll x).depth == .unknown) .depthUnknown else 0⟩
        exec (.clearPath h) s = .next (({ s with
          path := {
            lanes := ⟨List.replicate s.geometry.depthA none, List.replicate s.geometry.depthB none⟩
            main := List.replicate s.geometry.depthMain none
            segments := ⟨opened .a, opened .b⟩
            sequence := 0 }
          line := { s.line with origin := s.line.track, distance := 0, stretchRing := [] }
          addOn := { s.addOn with windows := ⟨[], []⟩ } } : State).replied h .ok []))

/-- READ SEGMENT: RANGE for a lane value that names no lane or a position at or beyond the lane's depth; NONE for an
untracked position; otherwise OK with the record of that position. It changes nothing. -/
def Obligations.ReadSegmentReturnsTheRecord : Prop :=
  ∀ (h : Hdr) (lane : Byte) (position : Word) (s : State), s.admits h .readSegment →
    let outcome := exec (.readSegment h lane position) s
    let p := position.toNat
    (2 < lane.toNat → outcome = .next (s.replied h .range []))
    ∧ (lane = 0 → s.geometry.depthA ≤ p → outcome = .next (s.replied h .range []))
    ∧ (lane = 1 → s.geometry.depthB ≤ p → outcome = .next (s.replied h .range []))
    ∧ (lane = 2 → s.geometry.depthMain ≤ p → outcome = .next (s.replied h .range []))
    ∧ (lane = 0 → p < s.geometry.depthA → outcome = .next (match slotAt (s.lane .a) p with
        | some r => s.replied h .ok r.bytes
        | none => s.replied h .none []))
    ∧ (lane = 1 → p < s.geometry.depthB → outcome = .next (match slotAt (s.lane .b) p with
        | some r => s.replied h .ok r.bytes
        | none => s.replied h .none []))
    ∧ (lane = 2 → p < s.geometry.depthMain → outcome = .next (match slotAt s.path.main p with
        | some r => s.replied h .ok r.bytes
        | none => s.replied h .none []))

/-- FIND searches the slots from the start position toward the head and changes nothing: it returns the position and
sequence of the first record that matches, passing over untracked slots and absent fields; when none matches, the number
of slots examined and of those passed over. A search R41 shuts out is refused RANGE. -/
def Obligations.FindReturnsTheFirstMatch : Prop :=
  ∀ (h : Hdr) (lane : Byte) (start : Word) (field mode : Byte) (value : Long) (s : State), s.admits h .find →
    (laneOf lane = none → exec (.find h lane start field mode value) s = .next (s.replied h .range []))
    ∧ ∀ l, laneOf lane = some l →
      ((s.depth l ≤ start.toNat ∨ queryOf l field mode value = none) →
        exec (.find h lane start field mode value) s = .next (s.replied h .range []))
      ∧ ∀ q, start.toNat < s.depth l → queryOf l field mode value = some q →
        let slots : List (Option Found) := (s.searched l).drop start.toNat
        let tested (slot : Option Found) : Option Bool := slot.bind q.test
        ((∃ (i : Nat) (r : Found), slots[i]? = some (some r) ∧ q.test r = some true
            ∧ (∀ j : Nat, j < i → (slots[j]?.bind tested) ≠ some true)
            ∧ exec (.find h lane start field mode value) s
                = .next (s.replied h .ok (u8 0 ++ u16 (start.toNat + i) ++ u32 r.sequence)))
          ∨ ((∀ i : Nat, (slots[i]?.bind tested) ≠ some true)
            ∧ exec (.find h lane start field mode value) s
                = .next (s.replied h .ok (u8 1 ++ u16 slots.length
                    ++ u16 (slots.filter fun slot => (tested slot).isNone).length))))

/-- The boundary event. Below the sequence wrap the number rises by one and the stretch is asked once. Each existing
lane shifts one slot toward the head and takes at its tail the record closed there: the stamped fields, the liquor,
which enters the pickup window of at most W, the concentration and density of the report register unless it is
UNKNOWN, the add-on and causes of the window so filled, the stretch, and the causes of the segment. The new open
segment carries SOAK where soak is pending, which is lowered by one, and the causes standing for a box in use. The
main lane shifts and takes the merge of what left lanes A and B. Then the record at the gauge is stamped, the pair
at the marker is handed to the Beam Unit, and the delivered slot is delivered; nothing else is touched before these
three. At the wrap the boundary is that of the cleared path: it is number 1, the records closed at it carry no
liquor and no stretch, and every other slot of their lanes is untracked. -/
def Obligations.BoundaryClosesAndShifts : Prop :=
  ∀ s : State,
    let t := s.boundary
    (s.path.sequence < 4294967295 →
      ∃ u : State,
        u = { s with
          line := s.takeStretch.line
          ports := s.takeStretch.ports
          path := { u.path with sequence := s.path.sequence + 1 }
          addOn := { s.addOn with windows := u.addOn.windows }
          monitor := { s.monitor with soak := u.monitor.soak } }
        ∧ (∀ x, s.laneExists x = true → ∃ r, u.lane x = some r :: (s.lane x).dropLast
            ∧ r.sequence = s.path.sequence + 1 ∧ r.style = s.settings.active ∧ r.ends = s.style.yarn.ends.get x
            ∧ r.speed = s.line.speed ∧ r.pressure = (s.boxes.pressure.get x).commanded ∧ r.dwell = 0
            ∧ r.roll = (if (s.roll x).state.referenced then some (s.roll x).position else none)
            ∧ r.liquor = (s.segment x).pulses * s.measurement.liquorWeight.get x
            ∧ u.window x = (s.window x ++ [r.liquor]).drop ((s.window x).length + 1 - s.style.yarn.window)
            ∧ r.concentration = (if (s.report x).state = .unknown then none else (s.report x).concentration)
            ∧ r.density = (if (s.report x).state = .unknown then none else (s.report x).density)
            ∧ r.addOn = u.laneAddOn x
            ∧ r.stretch = s.line.stretch
            ∧ r.causes = (s.segment x).causes ||| s.stretchCauses s.line.stretch ||| u.addOnCauses x
            ∧ u.soak x = { s.soak x with pending := (s.soak x).pending - 1 }
            ∧ u.segment x = ⟨0, causeIf (decide (0 < (s.soak x).pending)) .soak ||| (if s.inUse x = true then
                causeIf (s.line.lineState == .crawl) .crawl ||| causeIf ((s.roll x).depth == .out) .lift
                  ||| causeIf ((s.roll x).depth == .unknown) .depthUnknown else 0)⟩)
        ∧ (s.laneBExists = false → u.lane .b = s.lane .b ∧ u.window .b = s.window .b ∧ u.soak .b = s.soak .b
            ∧ u.segment .b = s.segment .b)
        ∧ (let outgoing (x : Box) : Option LaneRecord := (s.lane x).getLast?.getD none
          u.path.main = u.merge (outgoing .a) (if s.laneBExists then outgoing .b else none) :: s.path.main.dropLast)
        ∧ (let delivered : Option MainRecord := s.path.main.getLast?.getD none
          let g := u.gaugeArrival
          t = (g.markerArrival (slotAt g.path.main s.geometry.marker)
                ((g.path.main[s.geometry.marker + 1]?).getD delivered)).deliver delivered)
        ∧ t.line = u.line ∧ t.addOn = u.addOn ∧ t.monitor = u.monitor
        ∧ t.path = { u.path with main := t.path.main } ∧ t.path.main.length = max 1 s.path.main.length
        ∧ (∀ i, i + 1 < s.path.main.length → i + 1 ≠ s.geometry.gauge → t.path.main[i + 1]? = s.path.main[i]?))
    ∧ (s.path.sequence = 4294967295 →
      t = s.pathClear.boundary
      ∧ t.path.sequence = 1
      ∧ t.line.origin = s.line.track
      ∧ ∀ x, s.laneExists x = true → ∃ r, t.lane x = some r :: (List.replicate (match x with
            | .a => s.geometry.depthA
            | .b => s.geometry.depthB) none).dropLast
          ∧ r.sequence = 1 ∧ r.liquor = 0 ∧ r.stretch = none)

/-- The merge of the slots that left lanes A and B: untracked when no part is a record; otherwise a main record with
both sequences, the style of the A part if it is a record, the larger dwell, no moisture, the combined add-on, and
the causes of its parts with UNTRACKED_PART where lane B exists and one part is untracked and ADDON_LOW or
ADDON_HIGH where the combined add-on is present and outside the band of the record's style. -/
def Obligations.MergeJoinsItsParts : Prop :=
  ∀ (s : State) (a b : Option LaneRecord),
    (a = none → b = none → s.merge a b = none)
    ∧ ∀ lead, a.or b = some lead → ∃ m, s.merge a b = some m
        ∧ m.sequence = s.path.sequence
        ∧ m.seqA = a.map LaneRecord.sequence ∧ m.seqB = b.map LaneRecord.sequence
        ∧ m.style = lead.style ∧ m.moisture = none
        ∧ m.addOn = combinedAddOn s.laneBExists a b
        ∧ (let band := (s.settings.styles.get lead.style).bands.addOn
          m.causes = (a.map LaneRecord.causes).getD 0 ||| (b.map LaneRecord.causes).getD 0
            ||| (if s.laneBExists = true ∧ (a = none ∨ b = none) then Cause.untrackedPart.set else 0)
            ||| (if m.addOn.any (fun v => decide (v < band.low)) = true then Cause.addOnLow.set else 0)
            ||| (if m.addOn.any (fun v => decide (band.high < v)) = true then Cause.addOnHigh.set else 0))
        ∧ (∀ r, a = some r ∨ b = some r → r.dwell ≤ m.dwell ∧ r.causes &&& m.causes = r.causes)
        ∧ (m.dwell = (a.map LaneRecord.dwell).getD 0 ∨ m.dwell = (b.map LaneRecord.dwell).getD 0)
        ∧ (s.laneBExists = true → (a = none ∨ b = none) → shares m.causes Cause.untrackedPart.set = true)
        ∧ ((s.laneBExists = false ∨ (a ≠ none ∧ b ≠ none)) →
            (∀ r, a = some r ∨ b = some r → shares r.causes Cause.untrackedPart.set = false) →
            shares m.causes Cause.untrackedPart.set = false)

/-! ### Size add-on (chapter 3) -/

/-- A liquor pulse adds one to the pulse count of its box's open segment, which stays at 65,535, and changes nothing
else; on box B without lane B it has no effect.
The age timer's expiry in FRESH: STALE, the timer stopped, the values kept, INPUT_FAULT posted to every port, except
for a box whose lane does not exist, for which nothing is posted (log entry 19, DEDUCED). In UNKNOWN and STALE the
timer does not run. -/
def Obligations.LiquorPulseCountsAndAgeExpiryMakesStale : Prop :=
  (∀ (x : Box) (s : State), s.power = .running →
      (s.laneExists x = false → exec (.liquorPulse x) s = .next s)
      ∧ (s.laneExists x = true → (s.segment x).pulses ≤ 65535 →
          exec (.liquorPulse x) s = .next (s.setSegment x
            { s.segment x with pulses := min ((s.segment x).pulses + 1) 65535 })))
  ∧ ∀ (x : Box) (s : State), s.power = .running →
    ((s.report x).state ≠ .fresh → exec (.ageTimerExpiry x) s = .next s)
    ∧ ((s.report x).state = .fresh →
        let stale := s.setReport x { s.report x with state := .stale, age := none }
        exec (.ageTimerExpiry x) s = .next { stale with
          ports := if s.laneExists x then
              s.ports.map fun u => { u with events := u.events ||| Flag.inputFault.set }
            else s.ports })

/-- The commands of the PROCESS role alone. REPORT BOX stores concentration and density held to their ranges, FRESH with
the age timer from zero, CLAMPED when either was changed; it is refused RANGE for a box that does not exist. ZONE
HEAT sets the heat flag of its zone and returns the accumulator; an unknown zone or setting is refused RANGE. -/
def Obligations.ProcessReportsAreStored : Prop :=
  (∀ r, (permitted r .reportBox = true ↔ r = .process) ∧ (permitted r .zoneHeat = true ↔ r = .process))
  ∧ (∀ (h : Hdr) (box : Byte) (concentration density : Word) (s : State), s.admits h .reportBox →
    (s.existingBox box = none → exec (.reportBox h box concentration density) s = .next (s.replied h .range []))
    ∧ ∀ x, s.existingBox box = some x →
      let c := min concentration.toNat 300
      let d := max 900 (min density.toNat 1400)
      exec (.reportBox h box concentration density) s
        = .next ((s.setReport x ⟨some c, some d, .fresh, some 0⟩).replied h
            (if c = concentration.toNat ∧ d = density.toNat then .ok else .clamped) (u16 c ++ u16 d)))
  ∧ ∀ (h : Hdr) (zone setting : Byte) (s : State), s.admits h .zoneHeat →
    ((zoneOf zone = none ∨ 1 < setting.toNat) → exec (.zoneHeat h zone setting) s = .next (s.replied h .range []))
    ∧ ∀ z, zoneOf zone = some z → setting.toNat ≤ 1 →
      let c := s.monitor.zones.get z
      exec (.zoneHeat h zone setting) s
        = .next (({ s with monitor := { s.monitor with
            zones := s.monitor.zones.set z { c with heated := decide (setting = 0) } } } : State).replied h .ok
              ([zone, setting] ++ u16 c.accumulator))

/-- The lane add-on of a close: absent for a box without ends, for a short window and in UNKNOWN; otherwise
L × ρ × c × 5 over n × e × t rounded half up, at most 9999; with the causes of R54 and R56. The combined add-on of a
merge: absent with an untracked part while lane B exists, without a contributing part, or when one has none; otherwise
the mean of the contributing parts weighted by their ends, rounded half up. -/
def Obligations.AddOnFollowsWindowAndReport : Prop :=
  (∀ (s : State) (x : Box) (c d : Nat),
    let e := s.style.yarn.ends.get x
    let w := s.window x
    let short := decide (2 * w.length < s.style.yarn.window)
    (e = 0 → s.laneAddOn x = none ∧ s.addOnCauses x = 0)
    ∧ (e ≠ 0 → (s.report x).state = .unknown →
        s.laneAddOn x = none ∧ s.addOnCauses x = Cause.concUnknown.set ||| causeIf short .windowShort)
    ∧ (e ≠ 0 → (s.report x).state ≠ .unknown → (s.report x).concentration = some c → (s.report x).density = some d →
        s.addOnCauses x = causeIf ((s.report x).state == .stale) .concStale ||| causeIf short .windowShort
        ∧ s.laneAddOn x = if short then none
            else some (min (roundHalfUp (w.sum * d * c * 5) (w.length * e * s.style.yarn.tex)) 9999)))
  ∧ ∀ a b : LaneRecord,
    combinedAddOn true none (some b) = none ∧ combinedAddOn true (some a) none = none
    ∧ combinedAddOn true none none = none
    ∧ combinedAddOn false (some a) none = (if a.ends = 0 then none else a.addOn)
    ∧ (b.ends = 0 → combinedAddOn true (some a) (some b) = if a.ends = 0 then none else a.addOn)
    ∧ (a.ends = 0 → 0 < b.ends → combinedAddOn true (some a) (some b) = b.addOn)
    ∧ (∀ v w, 0 < a.ends → 0 < b.ends → a.addOn = some v → b.addOn = some w →
        combinedAddOn true (some a) (some b) = some (roundHalfUp (v * a.ends + w * b.ends) (a.ends + b.ends)))
    ∧ (0 < a.ends → 0 < b.ends → (a.addOn = none ∨ b.addOn = none) → combinedAddOn true (some a) (some b) = none)

/-! ### Condition Monitor (chapter 4) -/

/-- An expiry of the interval timer. The soak timer of each box in use that is immersed and has not crossed advances by
one tenth; at ten times the soak limit it crosses, arms the immersion count and posts SOAK. The accumulator of each
present heated zone advances by one, at most 65,535; at the dwell limit it crosses once, posts OVERDRY and adds
OVERDRY to the records in the zone, in lanes A and B and in the main lane. Everything else stays. In motion the
timer does not run. -/
def Obligations.IntervalExpiryAdvancesSoakAndDwell : Prop :=
  ∀ s : State, s.power = .running →
    (s.monitor.interval = none → exec .intervalTimerExpiry s = .next s)
    ∧ (s.monitor.interval.isSome = true →
      let counts (x : Box) : Bool := s.inUse x && (s.soak x).immersed && !(s.soak x).crossed
      let crosses (x : Box) : Bool := counts x && decide (10 * s.style.boxes.soakLimit ≤ (s.soak x).timer + 1)
      let heats (z : Zone) : Bool := (s.zoneRange z).isSome && (s.monitor.zones.get z).heated
      let acc (z : Zone) : Nat := min ((s.monitor.zones.get z).accumulator + 1) 65535
      let dries (z : Zone) : Bool := heats z && !(s.monitor.zones.get z).crossed
        && decide (s.style.drying.dwellLimit ≤ acc z)
      ∃ t, exec .intervalTimerExpiry s = .next t
        ∧ t = { s with
            monitor := { s.monitor with interval := some 0, soak := t.monitor.soak, zones := t.monitor.zones }
            path := { s.path with lanes := t.path.lanes, main := t.path.main }
            ports := t.ports }
        ∧ (∀ x, t.soak x =
            if crosses x then { s.soak x with
              timer := (s.soak x).timer + 1, crossed := true
              pending := max (s.soak x).pending ((s.geometry.immersion.get x + 199) / 200) }
            else if counts x then { s.soak x with timer := (s.soak x).timer + 1 } else s.soak x)
        ∧ (∀ z, t.monitor.zones.get z =
            if dries z then { s.monitor.zones.get z with accumulator := acc z, crossed := true }
            else if heats z then { s.monitor.zones.get z with accumulator := acc z } else s.monitor.zones.get z)
        ∧ s.eventsOnly t
        ∧ (∀ p i, (t.port p).events.getLsbD i = true ↔ (s.port p).events.getLsbD i = true
            ∨ (i = 10 ∧ ∃ x, crosses x = true) ∨ (i = 9 ∧ ∃ z, dries z = true))
        ∧ (∀ (x : Box) (i : Nat), (t.lane x)[i]? = (s.lane x)[i]?.map fun slot => slot.map fun r =>
            if dries (laneZone x) && s.zoneHolds (laneZone x) i then
              { r with causes := r.causes ||| Cause.overdry.set, dwell := min r.dwell 65535 }
            else r)
        ∧ (∀ i : Nat, t.path.main[i]? = s.path.main[i]?.map fun slot => slot.map fun r =>
            if mainZones.any fun z => dries z && s.zoneHolds z i then
              { r with causes := r.causes ||| Cause.overdry.set, dwell := min r.dwell 65535 }
            else r))

/-- A sample of the moisture loop: below 360 or above 2,080 a fault sample, which makes the gauge FAULT, drops the held
regain and posts INPUT_FAULT unless the gauge was in FAULT; any other makes it VALID with the regain
(i − 400) × span ÷ 1,600 rounded half up, i below 400 taken as 400, at most the span, and posts nothing. -/
def Obligations.GaugeSampleMovesTheGauge : Prop :=
  ∀ (i : Nat) (s : State), s.power = .running →
    ((i < 360 ∨ 2080 < i) → exec (.gaugeSample i) s = .next { s with
      monitor := { s.monitor with gauge := .fault, regain := none, sampleTimer := 0 }
      ports := if s.monitor.gauge = .fault then s.ports
        else s.ports.map fun u => { u with events := u.events ||| Flag.inputFault.set } })
    ∧ (360 ≤ i → i ≤ 2080 → exec (.gaugeSample i) s = .next { s with
      monitor := { s.monitor with
        gauge := .valid
        regain := some (min (roundHalfUp ((max i 400 - 400) * s.measurement.gaugeSpan) 1600) s.measurement.gaugeSpan)
        sampleTimer := 0 } })

/-- The gauge and marker arrivals of a boundary. In VALID the record at the gauge position takes the held regain as its
moisture and MOIST_LOW or MOIST_HIGH outside the band of its own style; in FAULT and NONE, and for an untracked
slot, the main lane is as it was. FAULT JET fires when the record now at the marker meets the ink mask and the slot
it replaced does not, unless the field reset period runs; otherwise nothing changes. -/
def Obligations.GaugeAndMarkerArrivals : Prop :=
  (∀ (s : State) (r : MainRecord) (v : Nat),
    let g := s.geometry.gauge
    let band := (s.settings.styles.get r.style).bands.moisture
    (slotAt s.path.main g = none → s.gaugeArrival = s)
    ∧ (s.monitor.gauge ≠ .valid → s.gaugeArrival.path.main = s.path.main)
    ∧ (slotAt s.path.main g = some r → s.monitor.gauge = .valid → s.monitor.regain = some v →
        s.gaugeArrival = s.setMain (s.path.main.set g (some { r with
          moisture := some v
          causes := r.causes ||| (if v < band.low then Cause.moistLow.set else 0)
            ||| (if band.high < v then Cause.moistHigh.set else 0) }))))
  ∧ ∀ (s : State) (now replaced : Option MainRecord),
    let meets (slot : Option MainRecord) : Prop := ∃ r, slot = some r ∧ r.causes &&& s.style.masks.ink ≠ 0
    (meets now → ¬meets replaced → s.boxes.fieldReset = none →
      s.markerArrival now replaced = { s with beams := { s.beams with
        faultJet := some (s.actuators.jetPulse * 1000) } })
    ∧ ((¬meets now ∨ meets replaced ∨ s.boxes.fieldReset ≠ none) → s.markerArrival now replaced = s)

/-! ### Box Control Unit (chapter 5) -/

/-- A ramp expiry sets each target by the cases of R84, held to the pressure limit, and moves each commanded pressure
toward it by at most the ramp rate without passing it; nothing else changes. -/
def Obligations.RampMovesPressureTowardTarget : Prop :=
  ∀ s : State, s.power = .running →
    let target (x : Box) : Nat := min s.actuators.pressureLimit
      (if s.laneExists x = false then 0
       else if s.style.yarn.ends.get x = 0 then 0
       else if s.line.lineState = .stopped then s.style.boxes.standstill.get x
       else curvePressure (s.style.curve.get x) s.line.speed)
    ∃ t, exec .rampTimerExpiry s = .next t
      ∧ t = { s with boxes := { s.boxes with pressure := t.boxes.pressure, rampTimer := 0 } }
      ∧ ∀ x, let before := (s.boxes.pressure.get x).commanded
          let after := (t.boxes.pressure.get x).commanded
          (t.boxes.pressure.get x).target = target x
          ∧ (before ≤ target x → after = min (before + s.actuators.rampRate) (target x))
          ∧ (target x ≤ before → after = max (before - s.actuators.rampRate) (target x))

/-- A squeeze curve of increasing speeds: the first point's pressure at or below its speed, the last point's at or above
its speed, a point's own at its speed, and between two neighbours the exact line rounded to the nearest kPa, an exact
half going to the larger pressure. -/
def Obligations.CurveRoundsToNearestPressure : Prop :=
  ∀ (first : CurvePoint) (rest : List CurvePoint) (speed : Nat), curveIncreases (first :: rest) = true →
    let curve := first :: rest
    let v := curvePressure curve speed
    (speed ≤ first.speed → v = first.pressure)
    ∧ (∀ last, curve.getLast? = some last → last.speed ≤ speed → v = last.pressure)
    ∧ (∀ p, p ∈ curve → p.speed = speed → v = p.pressure)
    ∧ ∀ (i : Nat) (p q : CurvePoint), curve[i]? = some p → curve[i + 1]? = some q → p.speed < speed → speed < q.speed →
        let d : Int := (q.speed : Int) - p.speed
        let exact : Int := p.pressure * d + ((q.pressure : Int) - p.pressure) * ((speed : Int) - p.speed)
        2 * exact - d < 2 * v * d ∧ 2 * v * d ≤ 2 * exact + d

/-- A step event. A standing roll gives none. MOVING, AUTO_LIFT and AUTO_LOWER move the position one step toward the
target and end in IDLE on reaching it, a master move with a DONE record and its flag to the originating port alone.
HOMING counts the step and keeps the position; the step that brings the count to the travel plus 200 ends it HOME_FAIL
in UNREF_IDLE with ROLL_UNREF to every port. The depth condition follows, with the immersion flag and the cause of a
box in use where it changes; nothing of the other box, the beam, the line or the settings is touched. That an
AUTO_LOWER whose target is its position stays there and ends at this event is log entry 12 (DEDUCED). -/
def Obligations.RollStepMovesOneStep : Prop :=
  ∀ (x : Box) (s : State), s.power = .running →
    let r := s.roll x
    let toward (target : Nat) : Nat :=
      if r.position < target then r.position + 1 else if target < r.position then r.position - 1 else r.position
    ∃ t, exec (.rollStep x) s = .next t
      ∧ t = { s with
          boxes := { s.boxes with rolls := s.boxes.rolls.set x (t.roll x) }
          monitor := { s.monitor with soak := s.monitor.soak.set x (t.soak x) }
          path := { s.path with segments := s.path.segments.set x (t.segment x) }
          ports := t.ports }
      ∧ s.eventsOnly t
      ∧ ((r.state = .unrefIdle ∨ r.state = .idle) → t = s)
      ∧ (∀ target f, r.state = .moving target f →
          (t.roll x).position = toward target
          ∧ (toward target ≠ target →
              (t.roll x).state = .moving target f ∧ (t.roll x).slot = r.slot ∧ t.ports = s.ports)
          ∧ (toward target = target →
              (t.roll x).state = .idle ∧ (t.roll x).slot = some ⟨.move, .done, f.start, some target, f.port⟩
              ∧ t.ports = s.ports.set f.port { s.port f.port with
                  events := (s.port f.port).events ||| (match x with
                    | .a => Flag.rollADone.set
                    | .b => Flag.rollBDone.set) }))
      ∧ (∀ target, (r.state = .autoLift ∧ target = 0) ∨ r.state = .autoLower target →
          (t.roll x).position = toward target ∧ (t.roll x).slot = r.slot ∧ t.ports = s.ports
          ∧ (t.roll x).state = if toward target = target then .idle else r.state)
      ∧ (∀ n f, r.state = .homing n f →
          (t.roll x).position = r.position
          ∧ (n + 1 < s.actuators.travel + 200 →
              (t.roll x).state = .homing (n + 1) f ∧ (t.roll x).slot = r.slot ∧ t.ports = s.ports)
          ∧ (s.actuators.travel + 200 ≤ n + 1 →
              (t.roll x).state = .unrefIdle ∧ (t.roll x).slot = some ⟨.home, .homeFail, f.start, none, f.port⟩
              ∧ ∀ p i, (t.port p).events.getLsbD i = true ↔ (s.port p).events.getLsbD i = true
                  ∨ i = 8 ∨ (p = f.port ∧ i = match x with | .a => 6 | .b => 7)))
      ∧ (r.state.inMotion = true → s.depthFollows t x)

/-- HOME SWITCH becoming active ends a home of its box at once: position 0, IDLE, a DONE record with end position 0, the
flag to the originating port alone. In any other state, and when it returns to inactive, only its level is noted. -/
def Obligations.HomeSwitchEndsTheHome : Prop :=
  ∀ (x : Box) (level : Bool) (s : State), s.power = .running →
    let noted : State := { s with boxes := { s.boxes with homeSwitch := s.boxes.homeSwitch.set x level } }
    ((level = false ∨ ∀ n f, (s.roll x).state ≠ .homing n f) → exec (.homeSwitchActive x level) s = .next noted)
    ∧ ∀ n f, level = true → (s.roll x).state = .homing n f →
      ∃ t, exec (.homeSwitchActive x level) s = .next t
        ∧ t = { noted with
            boxes := { noted.boxes with rolls := s.boxes.rolls.set x (t.roll x) }
            monitor := { s.monitor with soak := s.monitor.soak.set x (t.soak x) }
            path := { s.path with segments := s.path.segments.set x (t.segment x) }
            ports := s.ports.set f.port { s.port f.port with
              events := (s.port f.port).events ||| (match x with
                | .a => Flag.rollADone.set
                | .b => Flag.rollBDone.set) } }
        ∧ (t.roll x).state = .idle ∧ (t.roll x).position = 0
        ∧ (t.roll x).slot = some ⟨.home, .done, f.start, some 0, f.port⟩
        ∧ (t.roll x).depth = (if 10 < s.dip x then .out else .atDepth) ∧ s.depthFollows t x

/-- MOVE ROLL, permitted to LINE and STATION: the refusals of R91 in their order; otherwise the target is the value, or
position plus signed offset, held to 0 and the travel, CLAMPED where that changed it. At the target already, the
move ends DONE at once; otherwise the roll enters MOVING, and the pickup window is emptied where the move takes an
AT_DEPTH roll out of depth. -/
def Obligations.MoveRollStartsTheMove : Prop :=
  (∀ r, permitted r .moveRoll = true ↔ r = .line ∨ r = .station)
  ∧ ∀ (h : Hdr) (box mode : Byte) (value : Word) (s : State), s.admits h .moveRoll →
    let outcome := exec (.moveRoll h box mode value) s
    ((s.existingBox box = none ∨ 1 < mode.toNat) → outcome = .next (s.replied h .range []))
    ∧ ∀ x, s.existingBox box = some x → mode.toNat ≤ 1 →
      let r := s.roll x
      let wanted : Int := if mode = 0 then (value.toNat : Int) else r.position + value.toInt
      let target : Nat := (max 0 (min wanted s.actuators.travel)).toNat
      let status : Status := if (target : Int) = wanted then .started else .clamped
      ((s.boxes.fieldReset.isSome = true ∨ r.state.inMotion = true) → outcome = .next (s.replied h .busy []))
      ∧ (s.boxes.fieldReset = none → r.state = .unrefIdle → outcome = .next (s.replied h .unreferenced []))
      ∧ (s.boxes.fieldReset = none → r.state = .idle → r.slot.isSome = true → outcome = .next (s.replied h .pending []))
      ∧ (s.boxes.fieldReset = none → r.state = .idle → r.slot = none → target = r.position →
          outcome = .next (((s.setRoll x { r with slot := some ⟨.move, .done, r.position, some target, h.port⟩ }).setPort
            h.port { s.port h.port with events := (s.port h.port).events ||| (match x with
              | .a => Flag.rollADone.set
              | .b => Flag.rollBDone.set) }).replied h status (u16 target)))
      ∧ (s.boxes.fieldReset = none → r.state = .idle → r.slot = none → target ≠ r.position →
          outcome = .next (({ s with
            boxes := { s.boxes with rolls := s.boxes.rolls.set x { r with
              state := .moving target ⟨h.port, r.position⟩, stepPhase := 0 } }
            addOn := if r.depth = .atDepth ∧ target + 10 < s.dip x then
                { s.addOn with windows := s.addOn.windows.set x [] }
              else s.addOn } : State).replied h status (u16 target)))

/-- HOME ROLL and COLLECT, permitted to LINE and STATION. HOME ROLL: the refusals of R93 in their order; with the switch
active the home ends DONE at once at position 0; otherwise the roll becomes unreferenced and enters HOMING with a
count of 0, the window emptied where the roll was not OUT and 0 lies out of depth. COLLECT: RANGE for a box that
does not exist, NONE for an empty slot, otherwise the record, and the slot is emptied. That a home of a roll already
UNKNOWN adds no DEPTH_UNKNOWN anew follows log entry 18 (DEDUCED). -/
def Obligations.HomeRollStartsAndCollectTakes : Prop :=
  (∀ r, (permitted r .homeRoll = true ↔ r = .line ∨ r = .station)
    ∧ (permitted r .collect = true ↔ r = .line ∨ r = .station))
  ∧ (∀ (h : Hdr) (box : Byte) (s : State), s.admits h .homeRoll →
    let outcome := exec (.homeRoll h box) s
    (s.existingBox box = none → outcome = .next (s.replied h .range []))
    ∧ ∀ x, s.existingBox box = some x →
      let r := s.roll x
      ((s.boxes.fieldReset.isSome = true ∨ r.state.inMotion = true) → outcome = .next (s.replied h .busy []))
      ∧ (s.boxes.fieldReset = none → r.state.inMotion = false → r.slot.isSome = true →
          outcome = .next (s.replied h .pending []))
      ∧ (s.boxes.fieldReset = none → r.state.inMotion = false → r.slot = none → ∃ e : State,
          outcome = .next (e.replied h .started [])
          ∧ e = { s with
              boxes := { s.boxes with rolls := s.boxes.rolls.set x (e.roll x) }
              monitor := { s.monitor with soak := s.monitor.soak.set x (e.soak x) }
              path := { s.path with segments := s.path.segments.set x (e.segment x) }
              addOn := e.addOn
              ports := e.ports }
          ∧ s.depthFollows e x
          ∧ (s.boxes.homeSwitch.get x = true →
              (e.roll x).state = .idle ∧ (e.roll x).position = 0
              ∧ (e.roll x).slot = some ⟨.home, .done, r.position, some 0, h.port⟩
              ∧ e.addOn = s.addOn
              ∧ e.ports = s.ports.set h.port { s.port h.port with
                  events := (s.port h.port).events ||| (match x with
                    | .a => Flag.rollADone.set
                    | .b => Flag.rollBDone.set) })
          ∧ (s.boxes.homeSwitch.get x = false →
              (e.roll x).state = .homing 0 ⟨h.port, r.position⟩ ∧ (e.roll x).position = r.position
              ∧ (e.roll x).depth = .unknown ∧ (e.roll x).slot = none ∧ e.ports = s.ports
              ∧ e.addOn = (if r.depth ≠ .out ∧ 10 < s.dip x then
                  { s.addOn with windows := s.addOn.windows.set x [] } else s.addOn))))
  ∧ ∀ (h : Hdr) (box : Byte) (s : State), s.admits h .collect →
    (s.existingBox box = none → exec (.collect h box) s = .next (s.replied h .range []))
    ∧ ∀ x, s.existingBox box = some x →
      exec (.collect h box) s = match (s.roll x).slot with
        | none => .next (s.replied h .none [])
        | some c => .next ((s.setRoll x { s.roll x with slot := none }).replied h .ok c.bytes)

/-- The auto-lift expiry. Each existing referenced roll above 0 in IDLE, AUTO_LOWER or MOVING begins AUTO_LIFT from
where it stands with its pickup window emptied; a master move ends PREEMPTED with the present position, its flag
posted to the originating port. A roll in AUTO_LIFT, HOMING or UNREF_IDLE, or at 0, is left alone. -/
def Obligations.AutoLiftLiftsReferencedRolls : Prop :=
  ∀ s : State, s.power = .running →
    (s.boxes.autoLift = none → exec .autoLiftExpiry s = .next s)
    ∧ (s.boxes.autoLift.isSome = true →
      let lifts (x : Box) : Prop := s.laneExists x = true ∧ 0 < (s.roll x).position
        ∧ (s.roll x).state.referenced = true ∧ (s.roll x).state ≠ .autoLift
      ∃ t, exec .autoLiftExpiry s = .next t
        ∧ t = { s with
            boxes := { s.boxes with rolls := t.boxes.rolls, autoLift := none }
            addOn := { s.addOn with windows := t.addOn.windows }
            ports := t.ports }
        ∧ s.eventsOnly t
        ∧ (∀ p i, (t.port p).events.getLsbD i = true ↔ (s.port p).events.getLsbD i = true
            ∨ ∃ x target f, lifts x ∧ (s.roll x).state = .moving target f ∧ f.port = p
                ∧ i = match x with | .a => 6 | .b => 7)
        ∧ ∀ x,
          (¬lifts x → t.roll x = s.roll x ∧ t.window x = s.window x)
          ∧ (lifts x → t.window x = [] ∧ (t.roll x).state = .autoLift ∧ (t.roll x).position = (s.roll x).position
              ∧ (t.roll x).depth = (s.roll x).depth
              ∧ (∀ target f, (s.roll x).state = .moving target f →
                  (t.roll x).slot = some ⟨.move, .preempted, f.start, some (s.roll x).position, f.port⟩)
              ∧ ((∀ target f, (s.roll x).state ≠ .moving target f) → (t.roll x).slot = (s.roll x).slot)))

/-- RESET FIELD: BUSY while the period runs. Otherwise the period of 500 ms starts, both jets stop, every existing roll
is unreferenced in UNREF_IDLE at its kept position with depth UNKNOWN, a move or home in flight ends FIELD_RESET
with its flag to the originating port, and ROLL_UNREF is posted to every port; windows, beam and line are untouched.
DEPTH_UNKNOWN joins the open segment where the depth condition becomes UNKNOWN; that the segment of a roll already
UNKNOWN stays as it is follows log entry 18 (DEDUCED). -/
def Obligations.ResetFieldUnreferencesTheRolls : Prop :=
  ∀ (h : Hdr) (s : State), s.admits h .resetField →
    (s.boxes.fieldReset.isSome = true → exec (.resetField h) s = .next (s.replied h .busy []))
    ∧ (s.boxes.fieldReset = none → ∃ e : State, exec (.resetField h) s = .next (e.replied h .ok [])
        ∧ e = { s with
            boxes := { s.boxes with rolls := e.boxes.rolls, fieldReset := some 500000 }
            beams := { s.beams with cutJet := none, faultJet := none }
            monitor := { s.monitor with soak := e.monitor.soak }
            path := { s.path with segments := e.path.segments }
            ports := e.ports }
        ∧ (∀ x, s.laneExists x = true →
            (e.roll x).state = .unrefIdle ∧ (e.roll x).position = (s.roll x).position ∧ (e.roll x).depth = .unknown
            ∧ s.depthFollows e x
            ∧ (∀ target f, (s.roll x).state = .moving target f →
                (e.roll x).slot = some ⟨.move, .fieldReset, f.start, some (s.roll x).position, f.port⟩)
            ∧ (∀ n f, (s.roll x).state = .homing n f →
                (e.roll x).slot = some ⟨.home, .fieldReset, f.start, none, f.port⟩)
            ∧ ((∀ target f, (s.roll x).state ≠ .moving target f) → (∀ n f, (s.roll x).state ≠ .homing n f) →
                (e.roll x).slot = (s.roll x).slot))
        ∧ (∀ x, s.laneExists x = false → e.roll x = s.roll x ∧ e.soak x = s.soak x ∧ e.segment x = s.segment x)
        ∧ s.eventsOnly e
        ∧ ∀ p i, (e.port p).events.getLsbD i = true ↔ (s.port p).events.getLsbD i = true ∨ i = 8
            ∨ ∃ x f, s.laneExists x = true ∧ f.port = p ∧ (i = match x with | .a => 6 | .b => 7)
                ∧ ((∃ target, (s.roll x).state = .moving target f) ∨ ∃ n, (s.roll x).state = .homing n f))

/-- The expiries that only end an output or a period: FIELD RESET becomes inactive; a jet becomes inactive, the other
jet's pulse running on; the start-up hold ends. Each changes nothing else. -/
def Obligations.ExpiriesEndTheirOutputAlone : Prop :=
  ∀ s : State, s.power = .running →
    exec .fieldResetExpiry s = .next { s with boxes := { s.boxes with fieldReset := none } }
    ∧ exec (.jetTimerExpiry .cut) s = .next { s with beams := { s.beams with cutJet := none } }
    ∧ exec (.jetTimerExpiry .fault) s = .next { s with beams := { s.beams with faultJet := none } }
    ∧ exec .startUpHoldEnd s = .next { s with hold := none }

/-! ### Beam Unit (chapter 6) -/

/-- A millimetre on an open beam. The wound length rises by one; the next cut mark falls due when it reaches n × C − λ,
firing CUT JET, or counted suppressed during the field reset period; the slow and stop compares move the state
forward, posting each point newly passed; beyond the overrun compare the OVERRUN flag is set and posted once. At
4,294,967,295 the wound length stays and nothing is tested; with no beam open nothing happens. -/
def Obligations.MillimetreTestsMarksAndPoints : Prop :=
  ∀ s : State,
    (s.beams.current = none → s.woundMillimetre = s)
    ∧ ∀ o, s.beams.current = some o →
      (4294967295 ≤ o.record.wound → s.woundMillimetre = s)
      ∧ (o.record.wound < 4294967295 →
        let w := o.record.wound + 1
        let due : Bool := decide ((o.record.cutsDue + 1) * o.record.cutLength ≤ w + s.geometry.markerLead)
        let resetting : Bool := s.boxes.fieldReset.isSome
        let slow : Bool := decide (o.phase = .opened ∧ o.compares.slow ≤ w)
        let stop : Bool := decide ((slow ∨ o.phase = .slowing) ∧ o.compares.stop ≤ w)
        let ran : Bool := decide (o.compares.overrun < w) && !o.record.overrun
        s.woundMillimetre = { s with
          beams := { s.beams with
            current := some { o with
              phase := if stop then .stopping else if slow then .slowing else o.phase
              record := { o.record with
                wound := w
                cutsDue := o.record.cutsDue + (if due then 1 else 0)
                cutsSuppressed := o.record.cutsSuppressed + (if due && resetting then 1 else 0)
                overrun := o.record.overrun || ran } }
            cutJet := if due && !resetting then some (s.actuators.jetPulse * 1000) else s.beams.cutJet }
          ports := s.ports.map fun u => { u with events := u.events
            ||| (if slow then Flag.slowPoint.set else 0) ||| (if stop then Flag.stopPoint.set else 0)
            ||| (if ran then Flag.overrun.set else 0) } })

/-- A delivered slot on an open beam: a main record adds to tracked segments, to the statistics (count, sum, minimum and
maximum of each figure that is present) and to the cause union, an untracked slot its span to the untracked length
and UNTRACKED to the union. A span whose causes meet the beam fault mask extends the last range within the merge
gap, else is appended below 48 ranges with FAULT_RANGE to every port, else is absorbed by the last range; a span
that does not meet the mask leaves the list alone. At wound length 4,294,967,295 and with no beam open the slot is
ignored. -/
def Obligations.DeliveryGrowsTheFaultMap : Prop :=
  ∀ (s : State) (slot : Option MainRecord),
    (s.beams.current = none → s.deliver slot = s)
    ∧ (∀ o, s.beams.current = some o → 4294967295 ≤ o.record.wound → s.deliver slot = s)
    ∧ ∀ o, s.beams.current = some o → o.record.wound < 4294967295 →
      let taken (before after : Stats) (figure : Option Nat) : Prop :=
        (figure = none → after = before)
        ∧ ∀ v, figure = some v → after.count = before.count + 1 ∧ after.sum = before.sum + v
          ∧ (before.minimum = none → after.minimum = some v)
          ∧ (∀ m, before.minimum = some m → after.minimum = some (min m v))
          ∧ (before.maximum = none → after.maximum = some v)
          ∧ (∀ m, before.maximum = some m → after.maximum = some (max m v))
      let w := o.record.wound
      let first := w - 200
      let causes : CauseSet := match slot with
        | some m => m.causes
        | none => Cause.untracked.set
      let placed := causes &&& s.style.masks.beamFault
      let gap := s.style.drying.mergeGap
      ∃ o', (s.deliver slot).beams = { s.beams with current := some o' }
        ∧ o'.phase = o.phase ∧ o'.compares = o.compares
        ∧ o'.record.wound = w ∧ o'.record.causes = o.record.causes ||| causes
        ∧ (slot = none → o'.record.untracked = o.record.untracked + (w - first) ∧ o'.record.tracked = o.record.tracked
            ∧ o'.record.addOn = o.record.addOn ∧ o'.record.moisture = o.record.moisture)
        ∧ (∀ m, slot = some m → o'.record.tracked = o.record.tracked + 1 ∧ o'.record.untracked = o.record.untracked
            ∧ taken o.record.addOn o'.record.addOn m.addOn
            ∧ taken o.record.moisture o'.record.moisture m.moisture)
        ∧ (placed = 0 → o'.record.ranges = o.record.ranges ∧ (s.deliver slot).ports = s.ports)
        ∧ (placed ≠ 0 → o.record.ranges = [] →
            o'.record.ranges = [⟨first, w, placed, false⟩] ∧ (s.deliver slot).ports = (s.post .faultRange).ports)
        ∧ (∀ front last, placed ≠ 0 → o.record.ranges = front ++ [last] → first ≤ last.finish + gap →
            o'.record.ranges = front ++ [{ last with finish := w, causes := last.causes ||| placed }]
            ∧ (s.deliver slot).ports = s.ports)
        ∧ (∀ front last, placed ≠ 0 → o.record.ranges = front ++ [last] → last.finish + gap < first →
            (o.record.ranges.length < 48 →
              o'.record.ranges = o.record.ranges ++ [⟨first, w, placed, false⟩]
              ∧ (s.deliver slot).ports = (s.post .faultRange).ports)
            ∧ (48 ≤ o.record.ranges.length →
              o'.record.ranges = front ++ [{ last with
                finish := w, causes := last.causes ||| placed, absorbed := true }]
              ∧ (s.deliver slot).ports = s.ports))

/-- DOFF: the refusals of R116 in their order. Otherwise an open beam is closed DOFF into the store, of which the newest
four stay; a pending style is applied, or discarded where it needs a box B that does not exist; the plan head opens
the next beam, or with an empty plan the closed beam's successor, UNPLANNED; the new record is fresh, OPEN, with the
compares of the style then active; BEAM_CLOSED goes to every port when a beam was closed, PLAN_LOW when one entry or
none is left. A cause raised where the pending style is applied is judged by its ends (log entry 23, the model's
choice). -/
def Obligations.DoffClosesAndOpensBeams : Prop :=
  ∀ (h : Hdr) (s : State), s.admits h .doff →
    let outcome := exec (.doff h) s
    (s.line.lineState ≠ .stopped → outcome = .next (s.replied h .notStopped []))
    ∧ (s.line.lineState = .stopped → (∃ o, s.beams.current = some o ∧ o.record.wound = 0) →
        outcome = .next (s.replied h .emptyBeam []))
    ∧ (s.line.lineState = .stopped → s.beams.current = none → s.beams.plan = [] →
        outcome = .next (s.replied h .planEmpty []))
    ∧ (s.line.lineState = .stopped → (∀ o, s.beams.current = some o → o.record.wound ≠ 0) →
        (s.beams.current = none → s.beams.plan ≠ []) →
        let active := match s.pendingStyle with
          | some i => if s.laneBExists = false ∧ 1 ≤ (s.settings.styles.get i).yarn.ends.b then s.settings.active else i
          | none => s.settings.active
        let slowDistance := (s.settings.styles.get active).drying.slowDistance * 1000
        let lead := s.settings.machine.beam.stopLead
        ∃ (e : State) (number target cut : Nat) (unplanned : Bool),
          outcome = .next (e.replied h .ok
            (u16 number ++ u16 (target / 1000) ++ u16 (cut / 100) ++ flag8 unplanned))
          ∧ (∀ entry rest, s.beams.plan = entry :: rest →
              number = entry.number ∧ target = entry.target * 1000 ∧ cut = entry.cut * 100 ∧ unplanned = false)
          ∧ (∀ o, s.beams.plan = [] → s.beams.current = some o →
              number = (if o.record.number < 65535 then o.record.number + 1 else 1)
              ∧ target = o.record.target ∧ cut = o.record.cutLength ∧ unplanned = true)
          ∧ e.beams = {
              current := some ⟨.opened, {
                  number := number, style := active, target := target, cutLength := cut, wound := 0, cutsDue := 0
                  cutsSuppressed := 0, tracked := 0, untracked := 0, addOn := ⟨0, 0, none, none⟩
                  moisture := ⟨0, 0, none, none⟩, stops := 0, causes := 0, unplanned := unplanned, retained := false
                  overrun := false, closeReason := none, ranges := [] },
                ⟨min (target - slowDistance) (target - lead), target - lead,
                  target + s.settings.machine.beam.overrunTolerance⟩⟩
              cutJet := s.beams.cutJet
              faultJet := s.beams.faultJet
              plan := s.beams.plan.drop 1
              store := match s.beams.current with
                | some o => (s.beams.store ++ [{ o.record with closeReason := some .doff }]).drop (s.beams.store.length - 3)
                | none => s.beams.store }
          ∧ e = { s with
              beams := e.beams
              pendingStyle := none
              settings := { s.settings with active := active }
              addOn := { s.addOn with windows := e.addOn.windows }
              boxes := { s.boxes with rolls := e.boxes.rolls }
              monitor := { s.monitor with soak := e.monitor.soak }
              path := { s.path with segments := e.path.segments }
              ports := e.ports }
          ∧ (s.pendingStyle ≠ some active →
              e.addOn = s.addOn ∧ e.boxes = s.boxes ∧ e.monitor = s.monitor ∧ e.path = s.path)
          ∧ (s.pendingStyle = some active → active ≠ s.settings.active →
              e.addOn.windows = ⟨[], []⟩
              ∧ ∀ x, s.depthFollows e x ∧ e.roll x = { s.roll x with depth := (e.roll x).depth })
          ∧ s.eventsOnly e
          ∧ (∀ p i, (e.port p).events.getLsbD i = true ↔ (s.port p).events.getLsbD i = true
              ∨ (i = 0 ∧ s.beams.current.isSome = true) ∨ (i = 1 ∧ s.beams.plan.length ≤ 2)))

/-- CLOSE SET, permitted to LINE and STATION: NOT_STOPPED in CRAWL or RUN, NONE in IDLE, in that order; otherwise the
current beam is closed CLOSE SET into the store, of which the newest four stay, BEAM_CLOSED is posted to every port, and
no beam is open; the plan and the pending style stay. In IDLE both requests are inactive, no millimetre is counted and
no delivered slot is taken. -/
def Obligations.CloseSetClosesWithoutOpening : Prop :=
  (∀ r, permitted r .closeSet = true ↔ r = .line ∨ r = .station)
  ∧ (∀ (h : Hdr) (s : State), s.admits h .closeSet →
    (s.line.lineState ≠ .stopped → exec (.closeSet h) s = .next (s.replied h .notStopped []))
    ∧ (s.line.lineState = .stopped → s.beams.current = none → exec (.closeSet h) s = .next (s.replied h .none []))
    ∧ ∀ o, s.line.lineState = .stopped → s.beams.current = some o →
      exec (.closeSet h) s = .next (({ s with
        beams := { s.beams with
          current := none
          store := (s.beams.store ++ [{ o.record with closeReason := some .closeSet }]).drop (s.beams.store.length - 3) }
        ports := s.ports.map fun u => { u with events := u.events ||| Flag.beamClosed.set } } : State).replied h .ok []))
  ∧ ∀ (s : State) (slot : Option MainRecord), s.beams.current = none →
    s.slowRequest = false ∧ s.stopRequest = false ∧ s.woundMillimetre = s ∧ s.deliver slot = s

/-- SET TARGET, permitted to LINE and STATION: RANGE outside 100 to 60,000 m, then NONE in IDLE. Otherwise the record's
target and the three compares are set anew, the state is decided from the wound length, SLOW_POINT and STOP_POINT
are posted for each point newly passed, and the status is LATE exactly in STOPPING. -/
def Obligations.SetTargetDecidesTheState : Prop :=
  (∀ r, permitted r .setTarget = true ↔ r = .line ∨ r = .station)
  ∧ ∀ (h : Hdr) (metres : Word) (s : State), s.admits h .setTarget →
    ((metres.toNat < 100 ∨ 60000 < metres.toNat) → exec (.setTarget h metres) s = .next (s.replied h .range []))
    ∧ (100 ≤ metres.toNat → metres.toNat ≤ 60000 →
      (s.beams.current = none → exec (.setTarget h metres) s = .next (s.replied h .none []))
      ∧ ∀ o, s.beams.current = some o →
        let target := metres.toNat * 1000
        let stop := target - s.settings.machine.beam.stopLead
        let slow := min (target - s.style.drying.slowDistance * 1000) stop
        let overrun := target + s.settings.machine.beam.overrunTolerance
        let phase : BeamPhase := if stop ≤ o.record.wound then .stopping
          else if slow ≤ o.record.wound then .slowing else .opened
        exec (.setTarget h metres) s = .next (({ s with
          beams := { s.beams with
            current := some ⟨phase, { o.record with target := target }, ⟨slow, stop, overrun⟩⟩ }
          ports := s.ports.map fun u => { u with events := u.events
            ||| (if o.phase = .opened ∧ phase ≠ .opened then Flag.slowPoint.set else 0)
            ||| (if o.phase ≠ .stopping ∧ phase = .stopping then Flag.stopPoint.set else 0) } } : State).replied h
          (if phase = .stopping then .late else .ok)
          (u8 (beamStateCode (some phase)) ++ u32 slow ++ u32 stop ++ u32 overrun)))

/-- PLAN APPEND, permitted to STATION and DATA: RANGE for a field out of range, then FULL at 12 entries; otherwise the
entry joins at the end and the number held is returned. PLAN CLEAR, permitted to the same, removes every entry and
returns their number. RELEASE BEAM, permitted to the same: RANGE above age 3, NONE at or beyond the number held;
otherwise the stored record of that age, counted from the newest, is removed, the others keeping their order, and its
number is returned. -/
def Obligations.PlanAndStoreCommands : Prop :=
  (∀ r, (permitted r .planAppend = true ↔ r = .station ∨ r = .data)
    ∧ (permitted r .planClear = true ↔ r = .station ∨ r = .data)
    ∧ (permitted r .releaseBeam = true ↔ r = .station ∨ r = .data))
  ∧ (∀ (h : Hdr) (number target cut : Word) (s : State), s.admits h .planAppend →
    let valid : Prop := 1 ≤ number.toNat ∧ 100 ≤ target.toNat ∧ target.toNat ≤ 60000 ∧ 200 ≤ cut.toNat
      ∧ cut.toNat ≤ 5000
    let outcome := exec (.planAppend h number target cut) s
    (¬valid → outcome = .next (s.replied h .range []))
    ∧ (valid → 12 ≤ s.beams.plan.length → outcome = .next (s.replied h .full []))
    ∧ (valid → s.beams.plan.length < 12 →
        outcome = .next (({ s with beams := { s.beams with
          plan := s.beams.plan ++ [⟨number.toNat, target.toNat, cut.toNat⟩] } } : State).replied h .ok
            (u8 (s.beams.plan.length + 1)))))
  ∧ (∀ (h : Hdr) (s : State), s.admits h .planClear →
    exec (.planClear h) s
      = .next (({ s with beams := { s.beams with plan := [] } } : State).replied h .ok (u8 s.beams.plan.length)))
  ∧ ∀ (h : Hdr) (age : Byte) (s : State), s.admits h .releaseBeam →
    (3 < age.toNat → exec (.releaseBeam h age) s = .next (s.replied h .range []))
    ∧ (age.toNat ≤ 3 → s.beams.store.length ≤ age.toNat → exec (.releaseBeam h age) s = .next (s.replied h .none []))
    ∧ ∀ older r younger, age.toNat ≤ 3 → s.beams.store = older ++ r :: younger → younger.length = age.toNat →
      exec (.releaseBeam h age) s
        = .next (({ s with beams := { s.beams with store := older ++ younger } } : State).replied h .ok (u16 r.number))

/-! ### Style Store (chapter 7) -/

/-- SELECT STYLE sets the port's own selection and returns index, active and pending marks; READ STYLE and READ MACHINE
return a group of the selected set and of the machine table and change nothing; an index or group outside its range is
refused RANGE. -/
def Obligations.SelectionsAndReadsOfSettings : Prop :=
  ∀ (h : Hdr) (b : Byte) (s : State),
    (s.admits h .selectStyle →
      (∀ i : StyleIndex, b.toNat = i →
        exec (.selectStyle h b) s = .next ((s.setPort h.port { s.port h.port with selected := i }).replied h .ok
          [b, if s.settings.active = i then 1 else 0, if s.pendingStyle = some i then 1 else 0]))
      ∧ (3 < b.toNat → exec (.selectStyle h b) s = .next (s.replied h .range [])))
    ∧ (s.admits h .readStyle →
      let i := (s.port h.port).selected
      ((b = 0 ∨ 7 < b.toNat) → exec (.readStyle h b) s = .next (s.replied h .range []))
      ∧ (b ≠ 0 → b.toNat ≤ 7 → ∃ fields, (s.settings.styles.get i).groupBytes b = some fields
          ∧ exec (.readStyle h b) s = .next (s.replied h .ok
            (u8 i ++ flag8 (s.settings.active == i) ++ flag8 (s.pendingStyle == some i) ++ [b] ++ fields))))
    ∧ (s.admits h .readMachine →
      (4 < b.toNat → exec (.readMachine h b) s = .next (s.replied h .range []))
      ∧ (b.toNat ≤ 4 → ∃ fields, s.settings.machine.groupBytes b = some fields
          ∧ exec (.readMachine h b) s = .next (s.replied h .ok (b :: fields))))

/-- WRITE STYLE, permitted to STATION: the refusals of R129 in their order; otherwise the group of the port's selected
set is replaced whole, and a write of group 4 of the active style has the depth conditions evaluated anew, touching
nothing else. -/
def Obligations.WriteStyleReplacesOneGroup : Prop :=
  (∀ r, permitted r .writeStyle = true ↔ r = .station)
  ∧ ∀ (h : Hdr) (w : StyleWrite) (s : State), s.admits h .writeStyle →
    let i := (s.port h.port).selected
    let outcome := exec (.writeStyle h w) s
    let isYarn : Prop := ∃ a b t n, w = .yarn a b t n
    let isBoxes : Prop := ∃ a b c d k, w = .boxes a b c d k
    let written : State := { s with settings := { s.settings with
      styles := s.settings.styles.set i (w.apply (s.settings.styles.get i)) } }
    ((∃ g bytes, w = .other g bytes) → outcome = .next (s.replied h .range []))
    ∧ ((∀ g bytes, w ≠ .other g bytes) →
      (s.nv.flight.isSome = true → outcome = .next (s.replied h .busy []))
      ∧ (s.nv.flight = none → isYarn → s.settings.active = i → outcome = .next (s.replied h .activeStyle []))
      ∧ (s.nv.flight = none → (isYarn → s.settings.active ≠ i) →
          (w.inRange = false → outcome = .next (s.replied h .range []))
          ∧ (w.inRange = true → ¬(isBoxes ∧ s.settings.active = i) → outcome = .next (written.replied h .ok []))
          ∧ (w.inRange = true → isBoxes → s.settings.active = i → ∃ e : State, outcome = .next (e.replied h .ok [])
              ∧ e = { written with
                  boxes := { s.boxes with rolls := e.boxes.rolls }
                  monitor := { s.monitor with soak := e.monitor.soak }
                  path := { s.path with segments := e.path.segments } }
              ∧ ∀ x, s.depthFollows e x ∧ e.roll x = { s.roll x with depth := (e.roll x).depth })))

/-- ACTIVATE STYLE, permitted to STATION, the steps of R131 in their order: RANGE; BUSY while a store is in flight; the
active index cancels a pending style; NO_BOX_B; with no beam open the switch is made at once, emptying both windows
and re-evaluating the depth conditions; with a beam open the index becomes the pending style. That a cause raised at
the switch is judged by the new ends, also for a box the switch brings into or takes out of use, is the model's
choice (log entry 23). -/
def Obligations.ActivateStyleSwitchesOrPends : Prop :=
  (∀ r, permitted r .activateStyle = true ↔ r = .station)
  ∧ ∀ (h : Hdr) (b : Byte) (s : State), s.admits h .activateStyle →
    let outcome := exec (.activateStyle h b) s
    (3 < b.toNat → outcome = .next (s.replied h .range []))
    ∧ ∀ i : StyleIndex, b.toNat = i →
      (s.nv.flight.isSome = true → outcome = .next (s.replied h .busy []))
      ∧ (s.nv.flight = none → s.settings.active = i →
          outcome = .next (({ s with pendingStyle := none } : State).replied h .ok [b, 0, 1]))
      ∧ (s.nv.flight = none → s.settings.active ≠ i → s.laneBExists = false →
          1 ≤ (s.settings.styles.get i).yarn.ends.b → outcome = .next (s.replied h .noBoxB []))
      ∧ (s.nv.flight = none → s.settings.active ≠ i →
          (s.laneBExists = true ∨ (s.settings.styles.get i).yarn.ends.b = 0) →
          (∀ o, s.beams.current = some o →
            outcome = .next (({ s with pendingStyle := some i } : State).replied h .ok
              (u8 s.settings.active ++ [b, 0])))
          ∧ (s.beams.current = none → ∃ e : State, outcome = .next (e.replied h .ok [b, 0, 1])
            ∧ e = { s with
                pendingStyle := none
                settings := { s.settings with active := i }
                addOn := { s.addOn with windows := ⟨[], []⟩ }
                boxes := { s.boxes with rolls := e.boxes.rolls }
                monitor := { s.monitor with soak := e.monitor.soak }
                path := { s.path with segments := e.path.segments } }
            ∧ ∀ x, s.depthFollows e x ∧ e.roll x = { s.roll x with depth := (e.roll x).depth }))

/-! ### Settings Store and starts (chapter 9) -/

/-- WRITE MACHINE and WRITE ROLES, permitted to STATION. WRITE MACHINE: the refusals of R150 in their order; otherwise
the whole group is replaced in the working copy and no bank is touched. A write of the beam or the ports group
changes nothing else; one of the measurement group tests the age of each FRESH report, with INPUT_FAULT where an
existing box becomes STALE (for an absent box B see log entry 19); one of the actuators group holds the pressures to
the limit and unreferences rolls beyond the travel, with ROLL_UNREF where one was; one of the geometry group clears
the path at the new depths, opens the segments anew with the causes standing for a box in use, keeps a zone's
accumulator only where its range stays, leaves the roll and soak channels of a lane that stays as they were, and
starts box B afresh where lane B comes or goes (for the position kept at its going, see log entry 13). WRITE ROLES:
BUSY, then RANGE; otherwise the role table is replaced alone, and a port whose own role it changes is left no lock. -/
def Obligations.WriteMachineAndRolesReplaceOneGroup : Prop :=
  (∀ r, (permitted r .writeMachine = true ↔ r = .station) ∧ (permitted r .writeRoles = true ↔ r = .station))
  ∧ (∀ (h : Hdr) (w : MachineWrite) (s : State), s.admits h .writeMachine →
    let outcome := exec (.writeMachine h w) s
    let rollMoves : Prop := (s.roll .a).state.inMotion = true ∨ (s.roll .b).state.inMotion = true
    ((∃ g bytes, w = .other g bytes) → outcome = .next (s.replied h .range []))
    ∧ ((∀ g bytes, w ≠ .other g bytes) →
      (s.nv.flight.isSome = true → outcome = .next (s.replied h .busy []))
      ∧ (s.nv.flight = none → s.line.lineState ≠ .stopped → outcome = .next (s.replied h .notStopped []))
      ∧ (s.nv.flight = none → s.line.lineState = .stopped →
        (w.isGeometry = true → s.beams.current.isSome = true → outcome = .next (s.replied h .beamOpen []))
        ∧ ((w.isGeometry = true → s.beams.current = none) →
          (w.needsRollsStill = true → rollMoves → outcome = .next (s.replied h .busy []))
          ∧ ((w.needsRollsStill = true → ¬rollMoves) →
            (w.inRange = false → outcome = .next (s.replied h .range []))
            ∧ (w.inRange = true → w.takesBoxB s = true → outcome = .next (s.replied h .noBoxB []))
            ∧ (w.inRange = true → w.takesBoxB s = false → ∃ e : State, outcome = .next (e.replied h .ok [])
                ∧ e.settings = { s.settings with machine := w.apply s.settings.machine }
                ∧ ((∃ a b, w = .beam a b) ∨ (∃ l, w = .ports l) → e = { s with settings := e.settings })
                ∧ ((∃ tr fe la lb st hy sp ag, w = .measurement tr fe la lb st hy sp ag) →
                    e = { s with
                      settings := e.settings
                      addOn := { s.addOn with reports := e.addOn.reports }
                      ports := e.ports }
                    ∧ s.eventsOnly e
                    ∧ (∀ p i, (e.port p).events.getLsbD i = true ↔ (s.port p).events.getLsbD i = true
                        ∨ (i = 11 ∧ ∃ x, s.laneExists x = true ∧ (s.report x).state = .fresh
                          ∧ (s.report x).age.any (fun a => decide (e.measurement.ageLimit * 1000000 ≤ a)) = true))
                    ∧ ∀ x, e.report x = if (s.report x).state = .fresh
                          ∧ (s.report x).age.any (fun a => decide (e.measurement.ageLimit * 1000000 ≤ a)) = true then
                        { s.report x with state := .stale, age := none } else s.report x)
                ∧ ((∃ tr ra li rm lf di je, w = .actuators tr ra li rm lf di je) →
                    e = { s with
                      settings := e.settings
                      boxes := { s.boxes with pressure := e.boxes.pressure, rolls := e.boxes.rolls }
                      monitor := { s.monitor with soak := e.monitor.soak }
                      path := { s.path with segments := e.path.segments }
                      ports := e.ports }
                    ∧ s.eventsOnly e
                    ∧ (∀ p i, (e.port p).events.getLsbD i = true ↔ (s.port p).events.getLsbD i = true
                        ∨ (i = 8 ∧ ∃ x, (s.roll x).state.referenced = true
                          ∧ e.actuators.travel < (s.roll x).position))
                    ∧ ∀ x, e.boxes.pressure.get x = ⟨min (s.boxes.pressure.get x).target e.actuators.pressureLimit,
                          min (s.boxes.pressure.get x).commanded e.actuators.pressureLimit⟩
                      ∧ ((s.roll x).state.referenced = true → e.actuators.travel < (s.roll x).position →
                          e.roll x = { s.roll x with state := .unrefIdle, depth := .unknown, stepPhase := 0 }
                          ∧ s.depthFollows e x)
                      ∧ (¬((s.roll x).state.referenced = true ∧ e.actuators.travel < (s.roll x).position) →
                          e.roll x = s.roll x ∧ e.soak x = s.soak x ∧ e.segment x = s.segment x))
                ∧ (w.isGeometry = true →
                    e = { s with
                      settings := e.settings
                      path := {
                        lanes := ⟨List.replicate e.geometry.depthA none, List.replicate e.geometry.depthB none⟩
                        main := List.replicate e.geometry.depthMain none
                        segments := e.path.segments
                        sequence := 0 }
                      line := { s.line with origin := s.line.track, distance := 0, stretchRing := [] }
                      addOn := { s.addOn with windows := ⟨[], []⟩ }
                      boxes := { s.boxes with rolls := e.boxes.rolls }
                      monitor := { s.monitor with soak := e.monitor.soak, zones := e.monitor.zones } }
                    ∧ (∀ x, e.segment x = ⟨0, if e.inUse x = true then
                        causeIf ((e.roll x).depth == .out) .lift ||| causeIf ((e.roll x).depth == .unknown) .depthUnknown
                        else 0⟩)
                    ∧ (∀ x, x = .a ∨ s.laneBExists = e.laneBExists →
                        let d := depthOf (s.roll x).state (s.roll x).position (s.dip x)
                        e.roll x = { s.roll x with depth := d }
                        ∧ e.soak x = if d = (s.roll x).depth then s.soak x
                          else { s.soak x with immersed := d != .out })
                    ∧ (∀ z, e.monitor.zones.get z =
                        if (s.zoneRange z).isSome = true ∧ e.zoneRange z = s.zoneRange z then s.monitor.zones.get z
                        else { s.monitor.zones.get z with accumulator := 0, crossed := false })
                    ∧ (s.laneBExists = false → e.laneBExists = true → e.roll .b = ⟨.unrefIdle, 0, .unknown, none, 0⟩)
                    ∧ (s.laneBExists = true → e.laneBExists = false →
                        e.roll .b = ⟨.unrefIdle, (s.roll .b).position, .unknown, none, 0⟩)
                    ∧ (s.laneBExists ≠ e.laneBExists → e.soak .b = ⟨0, false, 0, true⟩))))))))
  ∧ ∀ (h : Hdr) (r0 r1 r2 r3 : Byte) (s : State), s.admits h .writeRoles →
    let outcome := exec (.writeRoles h r0 r1 r2 r3) s
    let legal : Prop := r0.toNat ≤ 4 ∧ r1.toNat ≤ 4 ∧ r2.toNat ≤ 4 ∧ r3.toNat ≤ 4
      ∧ (r0 = 2 ∨ r1 = 2 ∨ r2 = 2 ∨ r3 = 2)
    (s.nv.flight.isSome = true → outcome = .next (s.replied h .busy []))
    ∧ (s.nv.flight = none → ¬legal → outcome = .next (s.replied h .range []))
    ∧ (s.nv.flight = none → legal → ∃ table : PerPort Role,
        roleOf r0 = some table.p0 ∧ roleOf r1 = some table.p1 ∧ roleOf r2 = some table.p2 ∧ roleOf r3 = some table.p3
        ∧ let e : State := { s with settings := { s.settings with roles := table } }
          outcome = .next (if table.get h.port = s.role h.port then e.replied h .ok []
            else { e.replied h .ok [] with arbiter := ⟨nextPort h.port, none, none⟩ }))

/-- A bank is good exactly when its check word is written and matches its content. STORE SETTINGS, permitted to STATION:
BUSY while a store is in flight; otherwise OK at once, the copy of the working settings written into the bank that is
not the last good one, with a generation one above it, or into bank 1 with generation 1 when none is good; without a
check word that bank is not good, and the other bank stays. At its end the bank holds the copy and its check word, so
it is good, and STORE_DONE is posted to the originating port alone. The retention mark stops a store, whose bank is
then not good, ends a start-up hold and holds the card, keeping every other item. Model's choices: the end of a store
is taken whenever it is sent (log entry 11); the rule of the check word and the content of a bank whose writing was
stopped are free values (log entry 15). -/
def Obligations.StoreWritesTheOtherBank : Prop :=
  (∀ b : Bank, b.good = true ↔ b.check = some (Config.bankCheckWord b.content))
  ∧ (∀ r, permitted r .storeSettings = true ↔ r = .station)
  ∧ (∀ (h : Hdr) (s : State), s.admits h .storeSettings →
    let into1 (generation : Long) : Host.Outcome State Fault Refusal :=
      .next (({ s with nv := ⟨⟨⟨s.settings, generation⟩, none⟩, s.nv.bank2,
        some ⟨⟨s.settings, generation⟩, .bank1, h.port, 0⟩⟩ } : State).replied h .ok [])
    let into2 (generation : Long) : Host.Outcome State Fault Refusal :=
      .next (({ s with nv := ⟨s.nv.bank1, ⟨⟨s.settings, generation⟩, none⟩,
        some ⟨⟨s.settings, generation⟩, .bank2, h.port, 0⟩⟩ } : State).replied h .ok [])
    let count1 := s.nv.bank1.content.generation
    let count2 := s.nv.bank2.content.generation
    let outcome := exec (.storeSettings h) s
    (s.nv.flight.isSome = true → outcome = .next (s.replied h .busy []))
    ∧ (s.nv.flight = none →
      (s.nv.bank1.good = false → s.nv.bank2.good = false → outcome = into1 1)
      ∧ (s.nv.bank1.good = true → s.nv.bank2.good = false → outcome = into2 (count1 + 1))
      ∧ (s.nv.bank1.good = false → s.nv.bank2.good = true → outcome = into1 (count2 + 1))
      ∧ (s.nv.bank1.good = true → s.nv.bank2.good = true →
          outcome = if count2 = count1 + 1 then into1 (count2 + 1) else into2 (count1 + 1))))
  ∧ ∀ s : State, s.power = .running →
    (s.nv.flight = none → exec .storeEnd s = .next s)
    ∧ (∀ f, s.nv.flight = some f →
        exec .storeEnd s = .next { s with
          nv := match f.bank with
            | .bank1 => ⟨⟨f.copy, some (Config.bankCheckWord f.copy)⟩, s.nv.bank2, none⟩
            | .bank2 => ⟨s.nv.bank1, ⟨f.copy, some (Config.bankCheckWord f.copy)⟩, none⟩
          ports := s.ports.set f.port { s.port f.port with
            events := (s.port f.port).events ||| Flag.storeDone.set } })
    ∧ ∃ t, exec .retentionMarkWrite s = .next t
        ∧ t = { s with mark := true, power := .held, hold := none, nv := t.nv, freeCount := s.freeCount + 1 }
        ∧ t.nv.flight = none
        ∧ (s.nv.flight = none → t.nv = s.nv)
        ∧ (∀ f, s.nv.flight = some f → f.bank = .bank1 → t.nv.bank1.good = false ∧ t.nv.bank2 = s.nv.bank2)
        ∧ (∀ f, s.nv.flight = some f → f.bank = .bank2 → t.nv.bank2.good = false ∧ t.nv.bank1 = s.nv.bank1)

/-- A start always completes. The kind is NV_LOST without a good bank, WARM with the mark intact and RETAIN SUPPLY good,
else COLD. Every start opens the hold with the ports (no break waiting: log entry 7, DEDUCED), arbiter, channels and
timers of R15, R76, R87, R103 and R155, RESTART alone in every event set, the mark erased, and the auto-lift timer
at the delay loaded. NV_LOST takes the factory settings, COLD the last good copy, both with the counters at 0, the
path clear with DEPTH_UNKNOWN in the open segments of boxes in use, and reports, beams, plan and store gone. WARM
keeps the settings, the counters, plan and store; it adds POWERSTOP to every record in a zone of any lane and keeps
its other fields, DEPTH_UNKNOWN to the open segments of boxes in use, arms their soak pending, makes a report held
STALE, and marks an open beam RETAINED. That at every start only the open segments of boxes in use take DEPTH_UNKNOWN,
where R38 and R39 say it of the open segments, is the model's choice (log entry 17, DEDUCED). The timebase is left
open (a free value, log entry 4); retained items stand in the state itself (log entry 5). A store in flight stops and
leaves its bank not good, the other kept; what that bank then holds is a free value (log entry 15). -/
def Obligations.CardStartDecidesTheKind : Prop :=
  ∀ (retain : Bool) (s : State), ∃ t, exec (.cardStart retain) s = .next t
    ∧ t.startKind = (if s.nv.bank1.good = false ∧ s.nv.bank2.good = false then .nvLost
        else if s.mark = true ∧ retain = true then .warm else .cold)
    ∧ t.power = .running ∧ t.hold = some 0 ∧ t.mark = false
    ∧ t.nv.flight = none ∧ (s.nv.flight = none → t.nv = s.nv)
    ∧ (∀ f, s.nv.flight = some f → f.bank = .bank1 → t.nv.bank1.good = false ∧ t.nv.bank2 = s.nv.bank2)
    ∧ (∀ f, s.nv.flight = some f → f.bank = .bank2 → t.nv.bank2.good = false ∧ t.nv.bank1 = s.nv.bank1)
    ∧ t.arbiter = ⟨.p0, none, none⟩
    ∧ (∀ p, t.port p = {
        state := .idle, rx := none, queued := [], inBreak := false, reply := none, events := Flag.restart.set
        mask := 0xFFFF, keep := false, snapshot := none, selected := 0 })
    ∧ t.boxes = {
        pressure := ⟨⟨0, 0⟩, ⟨0, 0⟩⟩
        rampTimer := 0
        rolls := ⟨⟨.unrefIdle, 0, .unknown, none, 0⟩, ⟨.unrefIdle, 0, .unknown, none, 0⟩⟩
        autoLift := if 0 < t.actuators.autoLiftDelay then some ⟨0, t.actuators.autoLiftDelay * 1000000⟩ else none
        fieldReset := none
        homeSwitch := s.boxes.homeSwitch }
    ∧ t.addOn.windows = ⟨[], []⟩
    ∧ (∀ x, t.soak x = ⟨0, false, (t.soak x).pending, true⟩)
    ∧ t.monitor = {
        interval := some 0
        soak := t.monitor.soak
        zones := ⟨⟨true, 0, false⟩, ⟨true, 0, false⟩, ⟨true, 0, false⟩, ⟨true, 0, false⟩, ⟨true, 0, false⟩,
          ⟨true, 0, false⟩⟩
        gauge := .none
        regain := none
        sampleTimer := 0 }
    ∧ t.line.speed = 0 ∧ t.line.lineState = .stopped ∧ t.line.periods = [] ∧ t.line.lastCapture = none
    ∧ t.line.standstill = none
    ∧ t.beams.cutJet = none ∧ t.beams.faultJet = none
    ∧ (t.startKind ≠ .warm →
        t.line.track = 0 ∧ t.line.feed = 0 ∧ t.line.trackResidue = 0 ∧ t.line.feedResidue = 0 ∧ t.line.origin = 0
        ∧ t.line.distance = 0 ∧ t.line.stretchRing = [] ∧ t.line.feedSilent = false
        ∧ t.path = {
            lanes := ⟨List.replicate t.geometry.depthA none, List.replicate t.geometry.depthB none⟩
            main := List.replicate t.geometry.depthMain none
            segments := ⟨⟨0, if t.inUse .a = true then Cause.depthUnknown.set else 0⟩,
              ⟨0, if t.inUse .b = true then Cause.depthUnknown.set else 0⟩⟩
            sequence := 0 }
        ∧ (∀ x, t.report x = ⟨none, none, .unknown, none⟩ ∧ (t.soak x).pending = 0)
        ∧ t.beams.current = none ∧ t.beams.plan = [] ∧ t.beams.store = [] ∧ t.pendingStyle = none)
    ∧ (t.startKind = .nvLost → t.settings = factorySettings)
    ∧ (t.startKind = .cold → ∃ b, (b = s.nv.bank1 ∨ b = s.nv.bank2) ∧ b.good = true
        ∧ t.settings = b.content.settings
        ∧ (s.nv.bank1.good = true → s.nv.bank2.good = true →
            b = if s.nv.bank2.content.generation = s.nv.bank1.content.generation + 1 then s.nv.bank2 else s.nv.bank1))
    ∧ (t.startKind = .warm →
        t.settings = s.settings ∧ t.pendingStyle = s.pendingStyle
        ∧ t.line.track = s.line.track ∧ t.line.feed = s.line.feed ∧ t.line.trackResidue = s.line.trackResidue
        ∧ t.line.feedResidue = s.line.feedResidue ∧ t.line.origin = s.line.origin
        ∧ t.line.distance = s.line.distance ∧ t.line.stretchRing = s.line.stretchRing
        ∧ t.line.feedSilent = s.line.feedSilent
        ∧ t.path.sequence = s.path.sequence
        ∧ (∀ (x : Box) (i : Nat), (t.lane x)[i]? = (s.lane x)[i]?.map fun slot => slot.map fun r =>
            if s.zoneHolds (laneZone x) i then
              { r with causes := r.causes ||| Cause.powerstop.set, dwell := min r.dwell 65535 }
            else r)
        ∧ (∀ i : Nat, t.path.main[i]? = s.path.main[i]?.map fun slot => slot.map fun r =>
            if mainZones.any fun z => s.zoneHolds z i then
              { r with causes := r.causes ||| Cause.powerstop.set, dwell := min r.dwell 65535 }
            else r)
        ∧ (∀ x, t.segment x = { s.segment x with
              causes := (s.segment x).causes ||| (if s.inUse x then Cause.depthUnknown.set else 0) }
            ∧ (t.soak x).pending = (if s.inUse x then
                max (s.soak x).pending ((s.geometry.immersion.get x + 199) / 200) else (s.soak x).pending)
            ∧ (t.report x).concentration = (s.report x).concentration
            ∧ (t.report x).density = (s.report x).density ∧ (t.report x).age = none
            ∧ (t.report x).state = (if (s.report x).state = .unknown then .unknown else .stale))
        ∧ t.beams.plan = s.beams.plan ∧ t.beams.store = s.beams.store
        ∧ t.beams.current = s.beams.current.map fun o => { o with record := { o.record with retained := true } })

/-! ### Invariants of every step -/

/-- Every step keeps the working settings, each good bank and a store in flight in the ranges of Figure 9-1 and R126, with
the conditions of R19, R129 and R151. Between two steps no port is EXECUTING (a grant and the whole execution are
one step: log entry 9, DESIGN CHOICE), no receive stage stores more than 64 bytes, the lock gap timer runs only
under a lock, and the pending style is never the active style. -/
def Obligations.StepKeepsSettingsAndPortsLegal : Prop :=
  (∀ s t : State, s.settingsLegal → step s = .next t → t.settingsLegal)
  ∧ ∀ s t : State, s.portsLegal → step s = .next t → t.portsLegal

/-- Every step keeps the lanes as R18 promises: at the depths of the machine table, each with one unbroken run of
records ending at the tail whose numbers count down from the last boundary's. -/
def Obligations.StepKeepsLanesUnbroken : Prop :=
  ∀ s t : State, s.settingsLegal → s.pathLegal → step s = .next t → t.pathLegal

/-- Every step keeps the ranges of the Length Counter Unit, what STOPPED implies in it and in the timers that follow it,
and the ranges of the Add-On Calculator: windows within W, report registers as their state says. -/
def Obligations.StepKeepsLineAndAddOnLegal : Prop :=
  ∀ s t : State, s.lineLegal → s.addOnLegal → step s = .next t → t.lineLegal ∧ t.addOnLegal

/-- Every step keeps both commanded pressures within the pressure limit, each depth condition at what roll state,
position and dip depth give, each immersion flag at what the depth condition gives, and the completion slot empty while
a move or home is in flight. -/
def Obligations.StepKeepsBoxesLegal : Prop :=
  ∀ s t : State, s.boxesLegal → step s = .next t → t.boxesLegal

/-- Every step keeps the beams as R107, R115, R119 and R121 promise: cut marks due the whole part of (wound length +
marker lead) ÷ cut length, at most 48 ordered fault ranges that do not overlap and end within the wound length, at most
4 closed records stored and 12 plan entries in range. -/
def Obligations.StepKeepsBeamsLegal : Prop :=
  ∀ s t : State, s.settingsLegal → s.beamsLegal → step s = .next t → t.beamsLegal

/-- The state after reset, the opening of the hold of an NV_LOST start, is legal in every unit. -/
def Obligations.ResetIsLegal : Prop := State.reset.legal
end

