-- ==== Sys2Proof/Laws/State.lean ====
section
/-! SUPPORT. The small lemmas of the state: reading a family after a write of one member, and every field of the state
after every update that writes one place. -/

namespace Sys2Proof.Machine

/-! ### Families -/

section families
variable {α β : Type}

@[simp] theorem PerBox.get_set_same (x : PerBox α) (i : Box) (v : α) : (x.set i v).get i = v :=
  by cases i <;> rfl
theorem PerBox.get_set_ne (x : PerBox α) {i j : Box} (v : α) (h : j ≠ i) :
    (x.set i v).get j = x.get j := by
  cases i <;> cases j <;> first | rfl | exact absurd rfl h
theorem PerBox.get_set (x : PerBox α) (i j : Box) (v : α) : (x.set i v).get j =
    if j = i then v else x.get j := by
  split
  · next h => rw [h, PerBox.get_set_same]
  · next h => exact PerBox.get_set_ne x v h
@[simp] theorem PerBox.set_get (x : PerBox α) (i : Box) : x.set i (x.get i) = x := by cases i <;> rfl
@[simp] theorem PerBox.set_set (x : PerBox α) (i : Box) (v w : α) : (x.set i v).set i w = x.set i w := by
  cases i <;> rfl

@[simp] theorem PerPort.get_set_same (x : PerPort α) (i : Port) (v : α) : (x.set i v).get i = v :=
  by cases i <;> rfl
theorem PerPort.get_set_ne (x : PerPort α) {i j : Port} (v : α) (h : j ≠ i) :
    (x.set i v).get j = x.get j := by
  cases i <;> cases j <;> first | rfl | exact absurd rfl h
theorem PerPort.get_set (x : PerPort α) (i j : Port) (v : α) : (x.set i v).get j =
    if j = i then v else x.get j := by
  split
  · next h => rw [h, PerPort.get_set_same]
  · next h => exact PerPort.get_set_ne x v h
@[simp] theorem PerPort.set_get (x : PerPort α) (i : Port) : x.set i (x.get i) = x := by cases i <;> rfl
@[simp] theorem PerPort.set_set (x : PerPort α) (i : Port) (v w : α) : (x.set i v).set i w = x.set i w := by
  cases i <;> rfl

@[simp] theorem PerZone.get_set_same (x : PerZone α) (i : Zone) (v : α) : (x.set i v).get i = v :=
  by cases i <;> rfl
theorem PerZone.get_set_ne (x : PerZone α) {i j : Zone} (v : α) (h : j ≠ i) :
    (x.set i v).get j = x.get j := by
  cases i <;> cases j <;> first | rfl | exact absurd rfl h
theorem PerZone.get_set (x : PerZone α) (i j : Zone) (v : α) : (x.set i v).get j =
    if j = i then v else x.get j := by
  split
  · next h => rw [h, PerZone.get_set_same]
  · next h => exact PerZone.get_set_ne x v h
@[simp] theorem PerZone.set_get (x : PerZone α) (i : Zone) : x.set i (x.get i) = x := by cases i <;> rfl
@[simp] theorem PerZone.set_set (x : PerZone α) (i : Zone) (v w : α) : (x.set i v).set i w = x.set i w := by
  cases i <;> rfl

@[simp] theorem PerStyle.get_set_same (x : PerStyle α) (i : StyleIndex) (v : α) : (x.set i v).get i = v :=
  match i with | 0 => rfl | 1 => rfl | 2 => rfl | 3 => rfl
theorem PerStyle.get_set_ne (x : PerStyle α) {i j : StyleIndex} (v : α) (h : j ≠ i) :
    (x.set i v).get j = x.get j := by
  match i, j, h with
  | 0, 1, _ => rfl
  | 0, 2, _ => rfl
  | 0, 3, _ => rfl
  | 1, 0, _ => rfl
  | 1, 2, _ => rfl
  | 1, 3, _ => rfl
  | 2, 0, _ => rfl
  | 2, 1, _ => rfl
  | 2, 3, _ => rfl
  | 3, 0, _ => rfl
  | 3, 1, _ => rfl
  | 3, 2, _ => rfl
  | 0, 0, h => exact absurd rfl h
  | 1, 1, h => exact absurd rfl h
  | 2, 2, h => exact absurd rfl h
  | 3, 3, h => exact absurd rfl h
theorem PerStyle.get_set (x : PerStyle α) (i j : StyleIndex) (v : α) : (x.set i v).get j =
    if j = i then v else x.get j := by
  split
  · next h => rw [h, PerStyle.get_set_same]
  · next h => exact PerStyle.get_set_ne x v h

@[simp] theorem PerPort.get_map (f : α → β) (x : PerPort α) (i : Port) : (x.map f).get i = f (x.get i) := by cases i <;> rfl
@[simp] theorem PerZone.get_mapWith (f : Zone → α → β) (x : PerZone α) (i : Zone) :
    (x.mapWith f).get i = f i (x.get i) := by cases i <;> rfl

/-- Two families that agree at every port are equal. -/
theorem PerPort.ext_get {x y : PerPort α} (h : ∀ i, x.get i = y.get i) : x = y := by
  have h0 := h .p0; have h1 := h .p1; have h2 := h .p2; have h3 := h .p3
  cases x; cases y; simp_all [PerPort.get]

/-- Two families that agree at both boxes are equal. -/
theorem PerBox.ext_get {x y : PerBox α} (h : ∀ i, x.get i = y.get i) : x = y := by
  have h0 := h .a; have h1 := h .b
  cases x; cases y; simp_all [PerBox.get]

end families

/-! ### Every field after every update -/

section fields
variable (s : State)

@[simp] theorem State.drawFree_pending : (s.drawFree).pending = s.pending := rfl
@[simp] theorem State.drawFree_freeCount : (s.drawFree).freeCount = s.freeCount + 1 := rfl
@[simp] theorem State.drawFree_power : (s.drawFree).power = s.power := rfl
@[simp] theorem State.drawFree_startKind : (s.drawFree).startKind = s.startKind := rfl
@[simp] theorem State.drawFree_hold : (s.drawFree).hold = s.hold := rfl
@[simp] theorem State.drawFree_mark : (s.drawFree).mark = s.mark := rfl
@[simp] theorem State.drawFree_line : (s.drawFree).line = s.line := rfl
@[simp] theorem State.drawFree_path : (s.drawFree).path = s.path := rfl
@[simp] theorem State.drawFree_addOn : (s.drawFree).addOn = s.addOn := rfl
@[simp] theorem State.drawFree_monitor : (s.drawFree).monitor = s.monitor := rfl
@[simp] theorem State.drawFree_boxes : (s.drawFree).boxes = s.boxes := rfl
@[simp] theorem State.drawFree_beams : (s.drawFree).beams = s.beams := rfl
@[simp] theorem State.drawFree_settings : (s.drawFree).settings = s.settings := rfl
@[simp] theorem State.drawFree_pendingStyle : (s.drawFree).pendingStyle = s.pendingStyle := rfl
@[simp] theorem State.drawFree_nv : (s.drawFree).nv = s.nv := rfl
@[simp] theorem State.drawFree_ports : (s.drawFree).ports = s.ports := rfl
@[simp] theorem State.drawFree_arbiter : (s.drawFree).arbiter = s.arbiter := rfl

@[simp] theorem State.setPort_pending (p : Port) (u : PortUnit) : (s.setPort p u).pending = s.pending := rfl
@[simp] theorem State.setPort_freeCount (p : Port) (u : PortUnit) : (s.setPort p u).freeCount = s.freeCount := rfl
@[simp] theorem State.setPort_power (p : Port) (u : PortUnit) : (s.setPort p u).power = s.power := rfl
@[simp] theorem State.setPort_startKind (p : Port) (u : PortUnit) : (s.setPort p u).startKind = s.startKind := rfl
@[simp] theorem State.setPort_hold (p : Port) (u : PortUnit) : (s.setPort p u).hold = s.hold := rfl
@[simp] theorem State.setPort_mark (p : Port) (u : PortUnit) : (s.setPort p u).mark = s.mark := rfl
@[simp] theorem State.setPort_line (p : Port) (u : PortUnit) : (s.setPort p u).line = s.line := rfl
@[simp] theorem State.setPort_path (p : Port) (u : PortUnit) : (s.setPort p u).path = s.path := rfl
@[simp] theorem State.setPort_addOn (p : Port) (u : PortUnit) : (s.setPort p u).addOn = s.addOn := rfl
@[simp] theorem State.setPort_monitor (p : Port) (u : PortUnit) : (s.setPort p u).monitor = s.monitor := rfl
@[simp] theorem State.setPort_boxes (p : Port) (u : PortUnit) : (s.setPort p u).boxes = s.boxes := rfl
@[simp] theorem State.setPort_beams (p : Port) (u : PortUnit) : (s.setPort p u).beams = s.beams := rfl
@[simp] theorem State.setPort_settings (p : Port) (u : PortUnit) : (s.setPort p u).settings = s.settings := rfl
@[simp] theorem State.setPort_pendingStyle (p : Port) (u : PortUnit) :
    (s.setPort p u).pendingStyle = s.pendingStyle := rfl
@[simp] theorem State.setPort_nv (p : Port) (u : PortUnit) : (s.setPort p u).nv = s.nv := rfl
@[simp] theorem State.setPort_ports (p : Port) (u : PortUnit) : (s.setPort p u).ports = s.ports.set p u := rfl
@[simp] theorem State.setPort_arbiter (p : Port) (u : PortUnit) : (s.setPort p u).arbiter = s.arbiter := rfl

@[simp] theorem State.setRoll_pending (x : Box) (r : RollChannel) : (s.setRoll x r).pending = s.pending := rfl
@[simp] theorem State.setRoll_freeCount (x : Box) (r : RollChannel) : (s.setRoll x r).freeCount = s.freeCount := rfl
@[simp] theorem State.setRoll_power (x : Box) (r : RollChannel) : (s.setRoll x r).power = s.power := rfl
@[simp] theorem State.setRoll_startKind (x : Box) (r : RollChannel) : (s.setRoll x r).startKind = s.startKind := rfl
@[simp] theorem State.setRoll_hold (x : Box) (r : RollChannel) : (s.setRoll x r).hold = s.hold := rfl
@[simp] theorem State.setRoll_mark (x : Box) (r : RollChannel) : (s.setRoll x r).mark = s.mark := rfl
@[simp] theorem State.setRoll_line (x : Box) (r : RollChannel) : (s.setRoll x r).line = s.line := rfl
@[simp] theorem State.setRoll_path (x : Box) (r : RollChannel) : (s.setRoll x r).path = s.path := rfl
@[simp] theorem State.setRoll_addOn (x : Box) (r : RollChannel) : (s.setRoll x r).addOn = s.addOn := rfl
@[simp] theorem State.setRoll_monitor (x : Box) (r : RollChannel) : (s.setRoll x r).monitor = s.monitor := rfl
@[simp] theorem State.setRoll_boxes (x : Box) (r : RollChannel) :
    (s.setRoll x r).boxes = { s.boxes with rolls := s.boxes.rolls.set x r } := rfl
@[simp] theorem State.setRoll_beams (x : Box) (r : RollChannel) : (s.setRoll x r).beams = s.beams := rfl
@[simp] theorem State.setRoll_settings (x : Box) (r : RollChannel) : (s.setRoll x r).settings = s.settings := rfl
@[simp] theorem State.setRoll_pendingStyle (x : Box) (r : RollChannel) :
    (s.setRoll x r).pendingStyle = s.pendingStyle := rfl
@[simp] theorem State.setRoll_nv (x : Box) (r : RollChannel) : (s.setRoll x r).nv = s.nv := rfl
@[simp] theorem State.setRoll_ports (x : Box) (r : RollChannel) : (s.setRoll x r).ports = s.ports := rfl
@[simp] theorem State.setRoll_arbiter (x : Box) (r : RollChannel) : (s.setRoll x r).arbiter = s.arbiter := rfl

@[simp] theorem State.setSoak_pending (x : Box) (c : SoakChannel) : (s.setSoak x c).pending = s.pending := rfl
@[simp] theorem State.setSoak_freeCount (x : Box) (c : SoakChannel) : (s.setSoak x c).freeCount = s.freeCount := rfl
@[simp] theorem State.setSoak_power (x : Box) (c : SoakChannel) : (s.setSoak x c).power = s.power := rfl
@[simp] theorem State.setSoak_startKind (x : Box) (c : SoakChannel) : (s.setSoak x c).startKind = s.startKind := rfl
@[simp] theorem State.setSoak_hold (x : Box) (c : SoakChannel) : (s.setSoak x c).hold = s.hold := rfl
@[simp] theorem State.setSoak_mark (x : Box) (c : SoakChannel) : (s.setSoak x c).mark = s.mark := rfl
@[simp] theorem State.setSoak_line (x : Box) (c : SoakChannel) : (s.setSoak x c).line = s.line := rfl
@[simp] theorem State.setSoak_path (x : Box) (c : SoakChannel) : (s.setSoak x c).path = s.path := rfl
@[simp] theorem State.setSoak_addOn (x : Box) (c : SoakChannel) : (s.setSoak x c).addOn = s.addOn := rfl
@[simp] theorem State.setSoak_monitor (x : Box) (c : SoakChannel) :
    (s.setSoak x c).monitor = { s.monitor with soak := s.monitor.soak.set x c } := rfl
@[simp] theorem State.setSoak_boxes (x : Box) (c : SoakChannel) : (s.setSoak x c).boxes = s.boxes := rfl
@[simp] theorem State.setSoak_beams (x : Box) (c : SoakChannel) : (s.setSoak x c).beams = s.beams := rfl
@[simp] theorem State.setSoak_settings (x : Box) (c : SoakChannel) : (s.setSoak x c).settings = s.settings := rfl
@[simp] theorem State.setSoak_pendingStyle (x : Box) (c : SoakChannel) :
    (s.setSoak x c).pendingStyle = s.pendingStyle := rfl
@[simp] theorem State.setSoak_nv (x : Box) (c : SoakChannel) : (s.setSoak x c).nv = s.nv := rfl
@[simp] theorem State.setSoak_ports (x : Box) (c : SoakChannel) : (s.setSoak x c).ports = s.ports := rfl
@[simp] theorem State.setSoak_arbiter (x : Box) (c : SoakChannel) : (s.setSoak x c).arbiter = s.arbiter := rfl

@[simp] theorem State.setZone_pending (z : Zone) (c : ZoneChannel) : (s.setZone z c).pending = s.pending := rfl
@[simp] theorem State.setZone_freeCount (z : Zone) (c : ZoneChannel) : (s.setZone z c).freeCount = s.freeCount := rfl
@[simp] theorem State.setZone_power (z : Zone) (c : ZoneChannel) : (s.setZone z c).power = s.power := rfl
@[simp] theorem State.setZone_startKind (z : Zone) (c : ZoneChannel) : (s.setZone z c).startKind = s.startKind := rfl
@[simp] theorem State.setZone_hold (z : Zone) (c : ZoneChannel) : (s.setZone z c).hold = s.hold := rfl
@[simp] theorem State.setZone_mark (z : Zone) (c : ZoneChannel) : (s.setZone z c).mark = s.mark := rfl
@[simp] theorem State.setZone_line (z : Zone) (c : ZoneChannel) : (s.setZone z c).line = s.line := rfl
@[simp] theorem State.setZone_path (z : Zone) (c : ZoneChannel) : (s.setZone z c).path = s.path := rfl
@[simp] theorem State.setZone_addOn (z : Zone) (c : ZoneChannel) : (s.setZone z c).addOn = s.addOn := rfl
@[simp] theorem State.setZone_monitor (z : Zone) (c : ZoneChannel) :
    (s.setZone z c).monitor = { s.monitor with zones := s.monitor.zones.set z c } := rfl
@[simp] theorem State.setZone_boxes (z : Zone) (c : ZoneChannel) : (s.setZone z c).boxes = s.boxes := rfl
@[simp] theorem State.setZone_beams (z : Zone) (c : ZoneChannel) : (s.setZone z c).beams = s.beams := rfl
@[simp] theorem State.setZone_settings (z : Zone) (c : ZoneChannel) : (s.setZone z c).settings = s.settings := rfl
@[simp] theorem State.setZone_pendingStyle (z : Zone) (c : ZoneChannel) :
    (s.setZone z c).pendingStyle = s.pendingStyle := rfl
@[simp] theorem State.setZone_nv (z : Zone) (c : ZoneChannel) : (s.setZone z c).nv = s.nv := rfl
@[simp] theorem State.setZone_ports (z : Zone) (c : ZoneChannel) : (s.setZone z c).ports = s.ports := rfl
@[simp] theorem State.setZone_arbiter (z : Zone) (c : ZoneChannel) : (s.setZone z c).arbiter = s.arbiter := rfl

@[simp] theorem State.setSegment_pending (x : Box) (o : OpenSegment) : (s.setSegment x o).pending = s.pending := rfl
@[simp] theorem State.setSegment_freeCount (x : Box) (o : OpenSegment) :
    (s.setSegment x o).freeCount = s.freeCount := rfl
@[simp] theorem State.setSegment_power (x : Box) (o : OpenSegment) : (s.setSegment x o).power = s.power := rfl
@[simp] theorem State.setSegment_startKind (x : Box) (o : OpenSegment) :
    (s.setSegment x o).startKind = s.startKind := rfl
@[simp] theorem State.setSegment_hold (x : Box) (o : OpenSegment) : (s.setSegment x o).hold = s.hold := rfl
@[simp] theorem State.setSegment_mark (x : Box) (o : OpenSegment) : (s.setSegment x o).mark = s.mark := rfl
@[simp] theorem State.setSegment_line (x : Box) (o : OpenSegment) : (s.setSegment x o).line = s.line := rfl
@[simp] theorem State.setSegment_path (x : Box) (o : OpenSegment) :
    (s.setSegment x o).path = { s.path with segments := s.path.segments.set x o } := rfl
@[simp] theorem State.setSegment_addOn (x : Box) (o : OpenSegment) : (s.setSegment x o).addOn = s.addOn := rfl
@[simp] theorem State.setSegment_monitor (x : Box) (o : OpenSegment) : (s.setSegment x o).monitor = s.monitor := rfl
@[simp] theorem State.setSegment_boxes (x : Box) (o : OpenSegment) : (s.setSegment x o).boxes = s.boxes := rfl
@[simp] theorem State.setSegment_beams (x : Box) (o : OpenSegment) : (s.setSegment x o).beams = s.beams := rfl
@[simp] theorem State.setSegment_settings (x : Box) (o : OpenSegment) : (s.setSegment x o).settings = s.settings := rfl
@[simp] theorem State.setSegment_pendingStyle (x : Box) (o : OpenSegment) :
    (s.setSegment x o).pendingStyle = s.pendingStyle := rfl
@[simp] theorem State.setSegment_nv (x : Box) (o : OpenSegment) : (s.setSegment x o).nv = s.nv := rfl
@[simp] theorem State.setSegment_ports (x : Box) (o : OpenSegment) : (s.setSegment x o).ports = s.ports := rfl
@[simp] theorem State.setSegment_arbiter (x : Box) (o : OpenSegment) : (s.setSegment x o).arbiter = s.arbiter := rfl

@[simp] theorem State.setLane_pending (x : Box) (l : List (Option LaneRecord)) :
    (s.setLane x l).pending = s.pending := rfl
@[simp] theorem State.setLane_freeCount (x : Box) (l : List (Option LaneRecord)) :
    (s.setLane x l).freeCount = s.freeCount := rfl
@[simp] theorem State.setLane_power (x : Box) (l : List (Option LaneRecord)) : (s.setLane x l).power = s.power := rfl
@[simp] theorem State.setLane_startKind (x : Box) (l : List (Option LaneRecord)) :
    (s.setLane x l).startKind = s.startKind := rfl
@[simp] theorem State.setLane_hold (x : Box) (l : List (Option LaneRecord)) : (s.setLane x l).hold = s.hold := rfl
@[simp] theorem State.setLane_mark (x : Box) (l : List (Option LaneRecord)) : (s.setLane x l).mark = s.mark := rfl
@[simp] theorem State.setLane_line (x : Box) (l : List (Option LaneRecord)) : (s.setLane x l).line = s.line := rfl
@[simp] theorem State.setLane_path (x : Box) (l : List (Option LaneRecord)) :
    (s.setLane x l).path = { s.path with lanes := s.path.lanes.set x l } := rfl
@[simp] theorem State.setLane_addOn (x : Box) (l : List (Option LaneRecord)) : (s.setLane x l).addOn = s.addOn := rfl
@[simp] theorem State.setLane_monitor (x : Box) (l : List (Option LaneRecord)) :
    (s.setLane x l).monitor = s.monitor := rfl
@[simp] theorem State.setLane_boxes (x : Box) (l : List (Option LaneRecord)) : (s.setLane x l).boxes = s.boxes := rfl
@[simp] theorem State.setLane_beams (x : Box) (l : List (Option LaneRecord)) : (s.setLane x l).beams = s.beams := rfl
@[simp] theorem State.setLane_settings (x : Box) (l : List (Option LaneRecord)) :
    (s.setLane x l).settings = s.settings := rfl
@[simp] theorem State.setLane_pendingStyle (x : Box) (l : List (Option LaneRecord)) :
    (s.setLane x l).pendingStyle = s.pendingStyle := rfl
@[simp] theorem State.setLane_nv (x : Box) (l : List (Option LaneRecord)) : (s.setLane x l).nv = s.nv := rfl
@[simp] theorem State.setLane_ports (x : Box) (l : List (Option LaneRecord)) : (s.setLane x l).ports = s.ports := rfl
@[simp] theorem State.setLane_arbiter (x : Box) (l : List (Option LaneRecord)) :
    (s.setLane x l).arbiter = s.arbiter := rfl

@[simp] theorem State.setMain_pending (l : List (Option MainRecord)) : (s.setMain l).pending = s.pending := rfl
@[simp] theorem State.setMain_freeCount (l : List (Option MainRecord)) : (s.setMain l).freeCount = s.freeCount := rfl
@[simp] theorem State.setMain_power (l : List (Option MainRecord)) : (s.setMain l).power = s.power := rfl
@[simp] theorem State.setMain_startKind (l : List (Option MainRecord)) : (s.setMain l).startKind = s.startKind := rfl
@[simp] theorem State.setMain_hold (l : List (Option MainRecord)) : (s.setMain l).hold = s.hold := rfl
@[simp] theorem State.setMain_mark (l : List (Option MainRecord)) : (s.setMain l).mark = s.mark := rfl
@[simp] theorem State.setMain_line (l : List (Option MainRecord)) : (s.setMain l).line = s.line := rfl
@[simp] theorem State.setMain_path (l : List (Option MainRecord)) :
    (s.setMain l).path = { s.path with main := l } := rfl
@[simp] theorem State.setMain_addOn (l : List (Option MainRecord)) : (s.setMain l).addOn = s.addOn := rfl
@[simp] theorem State.setMain_monitor (l : List (Option MainRecord)) : (s.setMain l).monitor = s.monitor := rfl
@[simp] theorem State.setMain_boxes (l : List (Option MainRecord)) : (s.setMain l).boxes = s.boxes := rfl
@[simp] theorem State.setMain_beams (l : List (Option MainRecord)) : (s.setMain l).beams = s.beams := rfl
@[simp] theorem State.setMain_settings (l : List (Option MainRecord)) : (s.setMain l).settings = s.settings := rfl
@[simp] theorem State.setMain_pendingStyle (l : List (Option MainRecord)) :
    (s.setMain l).pendingStyle = s.pendingStyle := rfl
@[simp] theorem State.setMain_nv (l : List (Option MainRecord)) : (s.setMain l).nv = s.nv := rfl
@[simp] theorem State.setMain_ports (l : List (Option MainRecord)) : (s.setMain l).ports = s.ports := rfl
@[simp] theorem State.setMain_arbiter (l : List (Option MainRecord)) : (s.setMain l).arbiter = s.arbiter := rfl

@[simp] theorem State.setReport_pending (x : Box) (r : Report) : (s.setReport x r).pending = s.pending := rfl
@[simp] theorem State.setReport_freeCount (x : Box) (r : Report) : (s.setReport x r).freeCount = s.freeCount := rfl
@[simp] theorem State.setReport_power (x : Box) (r : Report) : (s.setReport x r).power = s.power := rfl
@[simp] theorem State.setReport_startKind (x : Box) (r : Report) : (s.setReport x r).startKind = s.startKind := rfl
@[simp] theorem State.setReport_hold (x : Box) (r : Report) : (s.setReport x r).hold = s.hold := rfl
@[simp] theorem State.setReport_mark (x : Box) (r : Report) : (s.setReport x r).mark = s.mark := rfl
@[simp] theorem State.setReport_line (x : Box) (r : Report) : (s.setReport x r).line = s.line := rfl
@[simp] theorem State.setReport_path (x : Box) (r : Report) : (s.setReport x r).path = s.path := rfl
@[simp] theorem State.setReport_addOn (x : Box) (r : Report) :
    (s.setReport x r).addOn = { s.addOn with reports := s.addOn.reports.set x r } := rfl
@[simp] theorem State.setReport_monitor (x : Box) (r : Report) : (s.setReport x r).monitor = s.monitor := rfl
@[simp] theorem State.setReport_boxes (x : Box) (r : Report) : (s.setReport x r).boxes = s.boxes := rfl
@[simp] theorem State.setReport_beams (x : Box) (r : Report) : (s.setReport x r).beams = s.beams := rfl
@[simp] theorem State.setReport_settings (x : Box) (r : Report) : (s.setReport x r).settings = s.settings := rfl
@[simp] theorem State.setReport_pendingStyle (x : Box) (r : Report) :
    (s.setReport x r).pendingStyle = s.pendingStyle := rfl
@[simp] theorem State.setReport_nv (x : Box) (r : Report) : (s.setReport x r).nv = s.nv := rfl
@[simp] theorem State.setReport_ports (x : Box) (r : Report) : (s.setReport x r).ports = s.ports := rfl
@[simp] theorem State.setReport_arbiter (x : Box) (r : Report) : (s.setReport x r).arbiter = s.arbiter := rfl

@[simp] theorem State.setWindow_pending (x : Box) (w : List Nat) : (s.setWindow x w).pending = s.pending := rfl
@[simp] theorem State.setWindow_freeCount (x : Box) (w : List Nat) : (s.setWindow x w).freeCount = s.freeCount := rfl
@[simp] theorem State.setWindow_power (x : Box) (w : List Nat) : (s.setWindow x w).power = s.power := rfl
@[simp] theorem State.setWindow_startKind (x : Box) (w : List Nat) : (s.setWindow x w).startKind = s.startKind := rfl
@[simp] theorem State.setWindow_hold (x : Box) (w : List Nat) : (s.setWindow x w).hold = s.hold := rfl
@[simp] theorem State.setWindow_mark (x : Box) (w : List Nat) : (s.setWindow x w).mark = s.mark := rfl
@[simp] theorem State.setWindow_line (x : Box) (w : List Nat) : (s.setWindow x w).line = s.line := rfl
@[simp] theorem State.setWindow_path (x : Box) (w : List Nat) : (s.setWindow x w).path = s.path := rfl
@[simp] theorem State.setWindow_addOn (x : Box) (w : List Nat) :
    (s.setWindow x w).addOn = { s.addOn with windows := s.addOn.windows.set x w } := rfl
@[simp] theorem State.setWindow_monitor (x : Box) (w : List Nat) : (s.setWindow x w).monitor = s.monitor := rfl
@[simp] theorem State.setWindow_boxes (x : Box) (w : List Nat) : (s.setWindow x w).boxes = s.boxes := rfl
@[simp] theorem State.setWindow_beams (x : Box) (w : List Nat) : (s.setWindow x w).beams = s.beams := rfl
@[simp] theorem State.setWindow_settings (x : Box) (w : List Nat) : (s.setWindow x w).settings = s.settings := rfl
@[simp] theorem State.setWindow_pendingStyle (x : Box) (w : List Nat) :
    (s.setWindow x w).pendingStyle = s.pendingStyle := rfl
@[simp] theorem State.setWindow_nv (x : Box) (w : List Nat) : (s.setWindow x w).nv = s.nv := rfl
@[simp] theorem State.setWindow_ports (x : Box) (w : List Nat) : (s.setWindow x w).ports = s.ports := rfl
@[simp] theorem State.setWindow_arbiter (x : Box) (w : List Nat) : (s.setWindow x w).arbiter = s.arbiter := rfl

@[simp] theorem State.emptyWindow_pending (x : Box) : (s.emptyWindow x).pending = s.pending := rfl
@[simp] theorem State.emptyWindow_freeCount (x : Box) : (s.emptyWindow x).freeCount = s.freeCount := rfl
@[simp] theorem State.emptyWindow_power (x : Box) : (s.emptyWindow x).power = s.power := rfl
@[simp] theorem State.emptyWindow_startKind (x : Box) : (s.emptyWindow x).startKind = s.startKind := rfl
@[simp] theorem State.emptyWindow_hold (x : Box) : (s.emptyWindow x).hold = s.hold := rfl
@[simp] theorem State.emptyWindow_mark (x : Box) : (s.emptyWindow x).mark = s.mark := rfl
@[simp] theorem State.emptyWindow_line (x : Box) : (s.emptyWindow x).line = s.line := rfl
@[simp] theorem State.emptyWindow_path (x : Box) : (s.emptyWindow x).path = s.path := rfl
@[simp] theorem State.emptyWindow_addOn (x : Box) :
    (s.emptyWindow x).addOn = { s.addOn with windows := s.addOn.windows.set x [] } := rfl
@[simp] theorem State.emptyWindow_monitor (x : Box) : (s.emptyWindow x).monitor = s.monitor := rfl
@[simp] theorem State.emptyWindow_boxes (x : Box) : (s.emptyWindow x).boxes = s.boxes := rfl
@[simp] theorem State.emptyWindow_beams (x : Box) : (s.emptyWindow x).beams = s.beams := rfl
@[simp] theorem State.emptyWindow_settings (x : Box) : (s.emptyWindow x).settings = s.settings := rfl
@[simp] theorem State.emptyWindow_pendingStyle (x : Box) : (s.emptyWindow x).pendingStyle = s.pendingStyle := rfl
@[simp] theorem State.emptyWindow_nv (x : Box) : (s.emptyWindow x).nv = s.nv := rfl
@[simp] theorem State.emptyWindow_ports (x : Box) : (s.emptyWindow x).ports = s.ports := rfl
@[simp] theorem State.emptyWindow_arbiter (x : Box) : (s.emptyWindow x).arbiter = s.arbiter := rfl

@[simp] theorem State.setBeam_pending (o : Option OpenBeam) : (s.setBeam o).pending = s.pending := rfl
@[simp] theorem State.setBeam_freeCount (o : Option OpenBeam) : (s.setBeam o).freeCount = s.freeCount := rfl
@[simp] theorem State.setBeam_power (o : Option OpenBeam) : (s.setBeam o).power = s.power := rfl
@[simp] theorem State.setBeam_startKind (o : Option OpenBeam) : (s.setBeam o).startKind = s.startKind := rfl
@[simp] theorem State.setBeam_hold (o : Option OpenBeam) : (s.setBeam o).hold = s.hold := rfl
@[simp] theorem State.setBeam_mark (o : Option OpenBeam) : (s.setBeam o).mark = s.mark := rfl
@[simp] theorem State.setBeam_line (o : Option OpenBeam) : (s.setBeam o).line = s.line := rfl
@[simp] theorem State.setBeam_path (o : Option OpenBeam) : (s.setBeam o).path = s.path := rfl
@[simp] theorem State.setBeam_addOn (o : Option OpenBeam) : (s.setBeam o).addOn = s.addOn := rfl
@[simp] theorem State.setBeam_monitor (o : Option OpenBeam) : (s.setBeam o).monitor = s.monitor := rfl
@[simp] theorem State.setBeam_boxes (o : Option OpenBeam) : (s.setBeam o).boxes = s.boxes := rfl
@[simp] theorem State.setBeam_beams (o : Option OpenBeam) : (s.setBeam o).beams = { s.beams with current := o } := rfl
@[simp] theorem State.setBeam_settings (o : Option OpenBeam) : (s.setBeam o).settings = s.settings := rfl
@[simp] theorem State.setBeam_pendingStyle (o : Option OpenBeam) : (s.setBeam o).pendingStyle = s.pendingStyle := rfl
@[simp] theorem State.setBeam_nv (o : Option OpenBeam) : (s.setBeam o).nv = s.nv := rfl
@[simp] theorem State.setBeam_ports (o : Option OpenBeam) : (s.setBeam o).ports = s.ports := rfl
@[simp] theorem State.setBeam_arbiter (o : Option OpenBeam) : (s.setBeam o).arbiter = s.arbiter := rfl

@[simp] theorem State.post_pending (f : Flag) : (s.post f).pending = s.pending := rfl
@[simp] theorem State.post_freeCount (f : Flag) : (s.post f).freeCount = s.freeCount := rfl
@[simp] theorem State.post_power (f : Flag) : (s.post f).power = s.power := rfl
@[simp] theorem State.post_startKind (f : Flag) : (s.post f).startKind = s.startKind := rfl
@[simp] theorem State.post_hold (f : Flag) : (s.post f).hold = s.hold := rfl
@[simp] theorem State.post_mark (f : Flag) : (s.post f).mark = s.mark := rfl
@[simp] theorem State.post_line (f : Flag) : (s.post f).line = s.line := rfl
@[simp] theorem State.post_path (f : Flag) : (s.post f).path = s.path := rfl
@[simp] theorem State.post_addOn (f : Flag) : (s.post f).addOn = s.addOn := rfl
@[simp] theorem State.post_monitor (f : Flag) : (s.post f).monitor = s.monitor := rfl
@[simp] theorem State.post_boxes (f : Flag) : (s.post f).boxes = s.boxes := rfl
@[simp] theorem State.post_beams (f : Flag) : (s.post f).beams = s.beams := rfl
@[simp] theorem State.post_settings (f : Flag) : (s.post f).settings = s.settings := rfl
@[simp] theorem State.post_pendingStyle (f : Flag) : (s.post f).pendingStyle = s.pendingStyle := rfl
@[simp] theorem State.post_nv (f : Flag) : (s.post f).nv = s.nv := rfl
@[simp] theorem State.post_ports (f : Flag) : (s.post f).ports = s.ports.map fun u => u.withEvent f := rfl
@[simp] theorem State.post_arbiter (f : Flag) : (s.post f).arbiter = s.arbiter := rfl

@[simp] theorem State.postTo_pending (p : Port) (f : Flag) : (s.postTo p f).pending = s.pending := rfl
@[simp] theorem State.postTo_freeCount (p : Port) (f : Flag) : (s.postTo p f).freeCount = s.freeCount := rfl
@[simp] theorem State.postTo_power (p : Port) (f : Flag) : (s.postTo p f).power = s.power := rfl
@[simp] theorem State.postTo_startKind (p : Port) (f : Flag) : (s.postTo p f).startKind = s.startKind := rfl
@[simp] theorem State.postTo_hold (p : Port) (f : Flag) : (s.postTo p f).hold = s.hold := rfl
@[simp] theorem State.postTo_mark (p : Port) (f : Flag) : (s.postTo p f).mark = s.mark := rfl
@[simp] theorem State.postTo_line (p : Port) (f : Flag) : (s.postTo p f).line = s.line := rfl
@[simp] theorem State.postTo_path (p : Port) (f : Flag) : (s.postTo p f).path = s.path := rfl
@[simp] theorem State.postTo_addOn (p : Port) (f : Flag) : (s.postTo p f).addOn = s.addOn := rfl
@[simp] theorem State.postTo_monitor (p : Port) (f : Flag) : (s.postTo p f).monitor = s.monitor := rfl
@[simp] theorem State.postTo_boxes (p : Port) (f : Flag) : (s.postTo p f).boxes = s.boxes := rfl
@[simp] theorem State.postTo_beams (p : Port) (f : Flag) : (s.postTo p f).beams = s.beams := rfl
@[simp] theorem State.postTo_settings (p : Port) (f : Flag) : (s.postTo p f).settings = s.settings := rfl
@[simp] theorem State.postTo_pendingStyle (p : Port) (f : Flag) : (s.postTo p f).pendingStyle = s.pendingStyle := rfl
@[simp] theorem State.postTo_nv (p : Port) (f : Flag) : (s.postTo p f).nv = s.nv := rfl
@[simp] theorem State.postTo_ports (p : Port) (f : Flag) :
    (s.postTo p f).ports = s.ports.set p ((s.port p).withEvent f) := rfl
@[simp] theorem State.postTo_arbiter (p : Port) (f : Flag) : (s.postTo p f).arbiter = s.arbiter := rfl

@[simp] theorem State.settleLock_pending (p : Port) (hold : Bool) : (s.settleLock p hold).pending = s.pending := rfl
@[simp] theorem State.settleLock_freeCount (p : Port) (hold : Bool) :
    (s.settleLock p hold).freeCount = s.freeCount := rfl
@[simp] theorem State.settleLock_power (p : Port) (hold : Bool) : (s.settleLock p hold).power = s.power := rfl
@[simp] theorem State.settleLock_startKind (p : Port) (hold : Bool) :
    (s.settleLock p hold).startKind = s.startKind := rfl
@[simp] theorem State.settleLock_hold (p : Port) (hold : Bool) : (s.settleLock p hold).hold = s.hold := rfl
@[simp] theorem State.settleLock_mark (p : Port) (hold : Bool) : (s.settleLock p hold).mark = s.mark := rfl
@[simp] theorem State.settleLock_line (p : Port) (hold : Bool) : (s.settleLock p hold).line = s.line := rfl
@[simp] theorem State.settleLock_path (p : Port) (hold : Bool) : (s.settleLock p hold).path = s.path := rfl
@[simp] theorem State.settleLock_addOn (p : Port) (hold : Bool) : (s.settleLock p hold).addOn = s.addOn := rfl
@[simp] theorem State.settleLock_monitor (p : Port) (hold : Bool) : (s.settleLock p hold).monitor = s.monitor := rfl
@[simp] theorem State.settleLock_boxes (p : Port) (hold : Bool) : (s.settleLock p hold).boxes = s.boxes := rfl
@[simp] theorem State.settleLock_beams (p : Port) (hold : Bool) : (s.settleLock p hold).beams = s.beams := rfl
@[simp] theorem State.settleLock_settings (p : Port) (hold : Bool) : (s.settleLock p hold).settings = s.settings := rfl
@[simp] theorem State.settleLock_pendingStyle (p : Port) (hold : Bool) :
    (s.settleLock p hold).pendingStyle = s.pendingStyle := rfl
@[simp] theorem State.settleLock_nv (p : Port) (hold : Bool) : (s.settleLock p hold).nv = s.nv := rfl
@[simp] theorem State.settleLock_ports (p : Port) (hold : Bool) : (s.settleLock p hold).ports = s.ports := rfl
@[simp] theorem State.settleLock_arbiter (p : Port) (hold : Bool) :
    (s.settleLock p hold).arbiter = { s.arbiter with lock := if hold then some p else none, lockGap := none } := rfl

@[simp] theorem State.grant_pending (p : Port) : (s.grant p).pending = s.pending := rfl
@[simp] theorem State.grant_freeCount (p : Port) : (s.grant p).freeCount = s.freeCount := rfl
@[simp] theorem State.grant_power (p : Port) : (s.grant p).power = s.power := rfl
@[simp] theorem State.grant_startKind (p : Port) : (s.grant p).startKind = s.startKind := rfl
@[simp] theorem State.grant_hold (p : Port) : (s.grant p).hold = s.hold := rfl
@[simp] theorem State.grant_mark (p : Port) : (s.grant p).mark = s.mark := rfl
@[simp] theorem State.grant_line (p : Port) : (s.grant p).line = s.line := rfl
@[simp] theorem State.grant_path (p : Port) : (s.grant p).path = s.path := rfl
@[simp] theorem State.grant_addOn (p : Port) : (s.grant p).addOn = s.addOn := rfl
@[simp] theorem State.grant_monitor (p : Port) : (s.grant p).monitor = s.monitor := rfl
@[simp] theorem State.grant_boxes (p : Port) : (s.grant p).boxes = s.boxes := rfl
@[simp] theorem State.grant_beams (p : Port) : (s.grant p).beams = s.beams := rfl
@[simp] theorem State.grant_settings (p : Port) : (s.grant p).settings = s.settings := rfl
@[simp] theorem State.grant_pendingStyle (p : Port) : (s.grant p).pendingStyle = s.pendingStyle := rfl
@[simp] theorem State.grant_nv (p : Port) : (s.grant p).nv = s.nv := rfl
@[simp] theorem State.grant_ports (p : Port) :
    (s.grant p).ports = s.ports.set p { s.port p with state := .executing, queued := [] } := rfl
@[simp] theorem State.grant_arbiter (p : Port) :
    (s.grant p).arbiter = { s.arbiter with pointer := nextPort p, lockGap := none } := rfl

end fields

/-! ### Reading a place after an update -/

section places
variable (s : State)

@[simp] theorem State.port_setPort_same (p : Port) (u : PortUnit) : (s.setPort p u).port p = u :=
  PerPort.get_set_same _ _ _
theorem State.port_setPort_ne {p y : Port} (u : PortUnit) (h : y ≠ p) : (s.setPort p u).port y = s.port y :=
  PerPort.get_set_ne _ _ h
@[simp] theorem State.roll_setRoll_same (x : Box) (r : RollChannel) : (s.setRoll x r).roll x = r :=
  PerBox.get_set_same _ _ _
theorem State.roll_setRoll_ne {x y : Box} (r : RollChannel) (h : y ≠ x) : (s.setRoll x r).roll y = s.roll y :=
  PerBox.get_set_ne _ _ h
@[simp] theorem State.soak_setSoak_same (x : Box) (c : SoakChannel) : (s.setSoak x c).soak x = c :=
  PerBox.get_set_same _ _ _
theorem State.soak_setSoak_ne {x y : Box} (c : SoakChannel) (h : y ≠ x) : (s.setSoak x c).soak y = s.soak y :=
  PerBox.get_set_ne _ _ h
@[simp] theorem State.segment_setSegment_same (x : Box) (o : OpenSegment) : (s.setSegment x o).segment x = o :=
  PerBox.get_set_same _ _ _
theorem State.segment_setSegment_ne {x y : Box} (o : OpenSegment) (h : y ≠ x) : (s.setSegment x o).segment y = s.segment y :=
  PerBox.get_set_ne _ _ h
@[simp] theorem State.report_setReport_same (x : Box) (r : Report) : (s.setReport x r).report x = r :=
  PerBox.get_set_same _ _ _
theorem State.report_setReport_ne {x y : Box} (r : Report) (h : y ≠ x) : (s.setReport x r).report y = s.report y :=
  PerBox.get_set_ne _ _ h
@[simp] theorem State.window_setWindow_same (x : Box) (w : List Nat) : (s.setWindow x w).window x = w :=
  PerBox.get_set_same _ _ _
theorem State.window_setWindow_ne {x y : Box} (w : List Nat) (h : y ≠ x) : (s.setWindow x w).window y = s.window y :=
  PerBox.get_set_ne _ _ h
@[simp] theorem State.lane_setLane_same (x : Box) (l : List (Option LaneRecord)) : (s.setLane x l).lane x = l :=
  PerBox.get_set_same _ _ _
theorem State.lane_setLane_ne {x y : Box} (l : List (Option LaneRecord)) (h : y ≠ x) : (s.setLane x l).lane y = s.lane y :=
  PerBox.get_set_ne _ _ h

@[simp] theorem State.setPort_roll (p : Port) (u : PortUnit) (y : Box) : (s.setPort p u).roll y = s.roll y := rfl
@[simp] theorem State.setPort_soak (p : Port) (u : PortUnit) (y : Box) : (s.setPort p u).soak y = s.soak y := rfl
@[simp] theorem State.setPort_segment (p : Port) (u : PortUnit) (y : Box) :
    (s.setPort p u).segment y = s.segment y := rfl
@[simp] theorem State.setPort_report (p : Port) (u : PortUnit) (y : Box) : (s.setPort p u).report y = s.report y := rfl
@[simp] theorem State.setPort_window (p : Port) (u : PortUnit) (y : Box) : (s.setPort p u).window y = s.window y := rfl
@[simp] theorem State.setPort_lane (p : Port) (u : PortUnit) (y : Box) : (s.setPort p u).lane y = s.lane y := rfl
@[simp] theorem State.setPort_style (p : Port) (u : PortUnit) : (s.setPort p u).style = s.style := rfl
@[simp] theorem State.setPort_geometry (p : Port) (u : PortUnit) : (s.setPort p u).geometry = s.geometry := rfl
@[simp] theorem State.setPort_measurement (p : Port) (u : PortUnit) : (s.setPort p u).measurement = s.measurement := rfl
@[simp] theorem State.setPort_actuators (p : Port) (u : PortUnit) : (s.setPort p u).actuators = s.actuators := rfl
@[simp] theorem State.setPort_laneBExists (p : Port) (u : PortUnit) : (s.setPort p u).laneBExists = s.laneBExists := rfl
@[simp] theorem State.setPort_laneExists (p : Port) (u : PortUnit) (y : Box) :
    (s.setPort p u).laneExists y = s.laneExists y := rfl
@[simp] theorem State.setPort_inUse (p : Port) (u : PortUnit) (y : Box) : (s.setPort p u).inUse y = s.inUse y := rfl
@[simp] theorem State.setPort_role (p : Port) (u : PortUnit) (q : Port) : (s.setPort p u).role q = s.role q := rfl
@[simp] theorem State.setPort_zoneRange (p : Port) (u : PortUnit) (z : Zone) :
    (s.setPort p u).zoneRange z = s.zoneRange z := rfl

@[simp] theorem State.setRoll_port (x : Box) (r : RollChannel) (q : Port) : (s.setRoll x r).port q = s.port q := rfl
@[simp] theorem State.setRoll_soak (x : Box) (r : RollChannel) (y : Box) : (s.setRoll x r).soak y = s.soak y := rfl
@[simp] theorem State.setRoll_segment (x : Box) (r : RollChannel) (y : Box) :
    (s.setRoll x r).segment y = s.segment y := rfl
@[simp] theorem State.setRoll_report (x : Box) (r : RollChannel) (y : Box) :
    (s.setRoll x r).report y = s.report y := rfl
@[simp] theorem State.setRoll_window (x : Box) (r : RollChannel) (y : Box) :
    (s.setRoll x r).window y = s.window y := rfl
@[simp] theorem State.setRoll_lane (x : Box) (r : RollChannel) (y : Box) : (s.setRoll x r).lane y = s.lane y := rfl
@[simp] theorem State.setRoll_style (x : Box) (r : RollChannel) : (s.setRoll x r).style = s.style := rfl
@[simp] theorem State.setRoll_geometry (x : Box) (r : RollChannel) : (s.setRoll x r).geometry = s.geometry := rfl
@[simp] theorem State.setRoll_measurement (x : Box) (r : RollChannel) :
    (s.setRoll x r).measurement = s.measurement := rfl
@[simp] theorem State.setRoll_actuators (x : Box) (r : RollChannel) : (s.setRoll x r).actuators = s.actuators := rfl
@[simp] theorem State.setRoll_laneBExists (x : Box) (r : RollChannel) :
    (s.setRoll x r).laneBExists = s.laneBExists := rfl
@[simp] theorem State.setRoll_laneExists (x : Box) (r : RollChannel) (y : Box) :
    (s.setRoll x r).laneExists y = s.laneExists y := rfl
@[simp] theorem State.setRoll_inUse (x : Box) (r : RollChannel) (y : Box) : (s.setRoll x r).inUse y = s.inUse y := rfl
@[simp] theorem State.setRoll_role (x : Box) (r : RollChannel) (q : Port) : (s.setRoll x r).role q = s.role q := rfl
@[simp] theorem State.setRoll_zoneRange (x : Box) (r : RollChannel) (z : Zone) :
    (s.setRoll x r).zoneRange z = s.zoneRange z := rfl

@[simp] theorem State.setSoak_port (x : Box) (c : SoakChannel) (q : Port) : (s.setSoak x c).port q = s.port q := rfl
@[simp] theorem State.setSoak_roll (x : Box) (c : SoakChannel) (y : Box) : (s.setSoak x c).roll y = s.roll y := rfl
@[simp] theorem State.setSoak_segment (x : Box) (c : SoakChannel) (y : Box) :
    (s.setSoak x c).segment y = s.segment y := rfl
@[simp] theorem State.setSoak_report (x : Box) (c : SoakChannel) (y : Box) :
    (s.setSoak x c).report y = s.report y := rfl
@[simp] theorem State.setSoak_window (x : Box) (c : SoakChannel) (y : Box) :
    (s.setSoak x c).window y = s.window y := rfl
@[simp] theorem State.setSoak_lane (x : Box) (c : SoakChannel) (y : Box) : (s.setSoak x c).lane y = s.lane y := rfl
@[simp] theorem State.setSoak_style (x : Box) (c : SoakChannel) : (s.setSoak x c).style = s.style := rfl
@[simp] theorem State.setSoak_geometry (x : Box) (c : SoakChannel) : (s.setSoak x c).geometry = s.geometry := rfl
@[simp] theorem State.setSoak_measurement (x : Box) (c : SoakChannel) :
    (s.setSoak x c).measurement = s.measurement := rfl
@[simp] theorem State.setSoak_actuators (x : Box) (c : SoakChannel) : (s.setSoak x c).actuators = s.actuators := rfl
@[simp] theorem State.setSoak_laneBExists (x : Box) (c : SoakChannel) :
    (s.setSoak x c).laneBExists = s.laneBExists := rfl
@[simp] theorem State.setSoak_laneExists (x : Box) (c : SoakChannel) (y : Box) :
    (s.setSoak x c).laneExists y = s.laneExists y := rfl
@[simp] theorem State.setSoak_inUse (x : Box) (c : SoakChannel) (y : Box) : (s.setSoak x c).inUse y = s.inUse y := rfl
@[simp] theorem State.setSoak_role (x : Box) (c : SoakChannel) (q : Port) : (s.setSoak x c).role q = s.role q := rfl
@[simp] theorem State.setSoak_zoneRange (x : Box) (c : SoakChannel) (z : Zone) :
    (s.setSoak x c).zoneRange z = s.zoneRange z := rfl

@[simp] theorem State.setZone_port (z : Zone) (c : ZoneChannel) (q : Port) : (s.setZone z c).port q = s.port q := rfl
@[simp] theorem State.setZone_roll (z : Zone) (c : ZoneChannel) (y : Box) : (s.setZone z c).roll y = s.roll y := rfl
@[simp] theorem State.setZone_soak (z : Zone) (c : ZoneChannel) (y : Box) : (s.setZone z c).soak y = s.soak y := rfl
@[simp] theorem State.setZone_segment (z : Zone) (c : ZoneChannel) (y : Box) :
    (s.setZone z c).segment y = s.segment y := rfl
@[simp] theorem State.setZone_report (z : Zone) (c : ZoneChannel) (y : Box) :
    (s.setZone z c).report y = s.report y := rfl
@[simp] theorem State.setZone_window (z : Zone) (c : ZoneChannel) (y : Box) :
    (s.setZone z c).window y = s.window y := rfl
@[simp] theorem State.setZone_lane (z : Zone) (c : ZoneChannel) (y : Box) : (s.setZone z c).lane y = s.lane y := rfl
@[simp] theorem State.setZone_style (z : Zone) (c : ZoneChannel) : (s.setZone z c).style = s.style := rfl
@[simp] theorem State.setZone_geometry (z : Zone) (c : ZoneChannel) : (s.setZone z c).geometry = s.geometry := rfl
@[simp] theorem State.setZone_measurement (z : Zone) (c : ZoneChannel) :
    (s.setZone z c).measurement = s.measurement := rfl
@[simp] theorem State.setZone_actuators (z : Zone) (c : ZoneChannel) : (s.setZone z c).actuators = s.actuators := rfl
@[simp] theorem State.setZone_laneBExists (z : Zone) (c : ZoneChannel) :
    (s.setZone z c).laneBExists = s.laneBExists := rfl
@[simp] theorem State.setZone_laneExists (z : Zone) (c : ZoneChannel) (y : Box) :
    (s.setZone z c).laneExists y = s.laneExists y := rfl
@[simp] theorem State.setZone_inUse (z : Zone) (c : ZoneChannel) (y : Box) : (s.setZone z c).inUse y = s.inUse y := rfl
@[simp] theorem State.setZone_role (z : Zone) (c : ZoneChannel) (q : Port) : (s.setZone z c).role q = s.role q := rfl
@[simp] theorem State.setZone_zoneRange (z : Zone) (c : ZoneChannel) (z' : Zone) :
    (s.setZone z c).zoneRange z' = s.zoneRange z' := rfl

@[simp] theorem State.setSegment_port (x : Box) (o : OpenSegment) (q : Port) :
    (s.setSegment x o).port q = s.port q := rfl
@[simp] theorem State.setSegment_roll (x : Box) (o : OpenSegment) (y : Box) :
    (s.setSegment x o).roll y = s.roll y := rfl
@[simp] theorem State.setSegment_soak (x : Box) (o : OpenSegment) (y : Box) :
    (s.setSegment x o).soak y = s.soak y := rfl
@[simp] theorem State.setSegment_report (x : Box) (o : OpenSegment) (y : Box) :
    (s.setSegment x o).report y = s.report y := rfl
@[simp] theorem State.setSegment_window (x : Box) (o : OpenSegment) (y : Box) :
    (s.setSegment x o).window y = s.window y := rfl
@[simp] theorem State.setSegment_lane (x : Box) (o : OpenSegment) (y : Box) :
    (s.setSegment x o).lane y = s.lane y := rfl
@[simp] theorem State.setSegment_style (x : Box) (o : OpenSegment) : (s.setSegment x o).style = s.style := rfl
@[simp] theorem State.setSegment_geometry (x : Box) (o : OpenSegment) : (s.setSegment x o).geometry = s.geometry := rfl
@[simp] theorem State.setSegment_measurement (x : Box) (o : OpenSegment) :
    (s.setSegment x o).measurement = s.measurement := rfl
@[simp] theorem State.setSegment_actuators (x : Box) (o : OpenSegment) :
    (s.setSegment x o).actuators = s.actuators := rfl
@[simp] theorem State.setSegment_laneBExists (x : Box) (o : OpenSegment) :
    (s.setSegment x o).laneBExists = s.laneBExists := rfl
@[simp] theorem State.setSegment_laneExists (x : Box) (o : OpenSegment) (y : Box) :
    (s.setSegment x o).laneExists y = s.laneExists y := rfl
@[simp] theorem State.setSegment_inUse (x : Box) (o : OpenSegment) (y : Box) :
    (s.setSegment x o).inUse y = s.inUse y := rfl
@[simp] theorem State.setSegment_role (x : Box) (o : OpenSegment) (q : Port) :
    (s.setSegment x o).role q = s.role q := rfl
@[simp] theorem State.setSegment_zoneRange (x : Box) (o : OpenSegment) (z : Zone) :
    (s.setSegment x o).zoneRange z = s.zoneRange z := rfl

@[simp] theorem State.setLane_port (x : Box) (l : List (Option LaneRecord)) (q : Port) :
    (s.setLane x l).port q = s.port q := rfl
@[simp] theorem State.setLane_roll (x : Box) (l : List (Option LaneRecord)) (y : Box) :
    (s.setLane x l).roll y = s.roll y := rfl
@[simp] theorem State.setLane_soak (x : Box) (l : List (Option LaneRecord)) (y : Box) :
    (s.setLane x l).soak y = s.soak y := rfl
@[simp] theorem State.setLane_segment (x : Box) (l : List (Option LaneRecord)) (y : Box) :
    (s.setLane x l).segment y = s.segment y := rfl
@[simp] theorem State.setLane_report (x : Box) (l : List (Option LaneRecord)) (y : Box) :
    (s.setLane x l).report y = s.report y := rfl
@[simp] theorem State.setLane_window (x : Box) (l : List (Option LaneRecord)) (y : Box) :
    (s.setLane x l).window y = s.window y := rfl
@[simp] theorem State.setLane_style (x : Box) (l : List (Option LaneRecord)) : (s.setLane x l).style = s.style := rfl
@[simp] theorem State.setLane_geometry (x : Box) (l : List (Option LaneRecord)) :
    (s.setLane x l).geometry = s.geometry := rfl
@[simp] theorem State.setLane_measurement (x : Box) (l : List (Option LaneRecord)) :
    (s.setLane x l).measurement = s.measurement := rfl
@[simp] theorem State.setLane_actuators (x : Box) (l : List (Option LaneRecord)) :
    (s.setLane x l).actuators = s.actuators := rfl
@[simp] theorem State.setLane_laneBExists (x : Box) (l : List (Option LaneRecord)) :
    (s.setLane x l).laneBExists = s.laneBExists := rfl
@[simp] theorem State.setLane_laneExists (x : Box) (l : List (Option LaneRecord)) (y : Box) :
    (s.setLane x l).laneExists y = s.laneExists y := rfl
@[simp] theorem State.setLane_inUse (x : Box) (l : List (Option LaneRecord)) (y : Box) :
    (s.setLane x l).inUse y = s.inUse y := rfl
@[simp] theorem State.setLane_role (x : Box) (l : List (Option LaneRecord)) (q : Port) :
    (s.setLane x l).role q = s.role q := rfl
@[simp] theorem State.setLane_zoneRange (x : Box) (l : List (Option LaneRecord)) (z : Zone) :
    (s.setLane x l).zoneRange z = s.zoneRange z := rfl

@[simp] theorem State.setMain_port (l : List (Option MainRecord)) (q : Port) : (s.setMain l).port q = s.port q := rfl
@[simp] theorem State.setMain_roll (l : List (Option MainRecord)) (y : Box) : (s.setMain l).roll y = s.roll y := rfl
@[simp] theorem State.setMain_soak (l : List (Option MainRecord)) (y : Box) : (s.setMain l).soak y = s.soak y := rfl
@[simp] theorem State.setMain_segment (l : List (Option MainRecord)) (y : Box) :
    (s.setMain l).segment y = s.segment y := rfl
@[simp] theorem State.setMain_report (l : List (Option MainRecord)) (y : Box) :
    (s.setMain l).report y = s.report y := rfl
@[simp] theorem State.setMain_window (l : List (Option MainRecord)) (y : Box) :
    (s.setMain l).window y = s.window y := rfl
@[simp] theorem State.setMain_lane (l : List (Option MainRecord)) (y : Box) : (s.setMain l).lane y = s.lane y := rfl
@[simp] theorem State.setMain_style (l : List (Option MainRecord)) : (s.setMain l).style = s.style := rfl
@[simp] theorem State.setMain_geometry (l : List (Option MainRecord)) : (s.setMain l).geometry = s.geometry := rfl
@[simp] theorem State.setMain_measurement (l : List (Option MainRecord)) :
    (s.setMain l).measurement = s.measurement := rfl
@[simp] theorem State.setMain_actuators (l : List (Option MainRecord)) : (s.setMain l).actuators = s.actuators := rfl
@[simp] theorem State.setMain_laneBExists (l : List (Option MainRecord)) :
    (s.setMain l).laneBExists = s.laneBExists := rfl
@[simp] theorem State.setMain_laneExists (l : List (Option MainRecord)) (y : Box) :
    (s.setMain l).laneExists y = s.laneExists y := rfl
@[simp] theorem State.setMain_inUse (l : List (Option MainRecord)) (y : Box) : (s.setMain l).inUse y = s.inUse y := rfl
@[simp] theorem State.setMain_role (l : List (Option MainRecord)) (q : Port) : (s.setMain l).role q = s.role q := rfl
@[simp] theorem State.setMain_zoneRange (l : List (Option MainRecord)) (z : Zone) :
    (s.setMain l).zoneRange z = s.zoneRange z := rfl

@[simp] theorem State.setReport_port (x : Box) (r : Report) (q : Port) : (s.setReport x r).port q = s.port q := rfl
@[simp] theorem State.setReport_roll (x : Box) (r : Report) (y : Box) : (s.setReport x r).roll y = s.roll y := rfl
@[simp] theorem State.setReport_soak (x : Box) (r : Report) (y : Box) : (s.setReport x r).soak y = s.soak y := rfl
@[simp] theorem State.setReport_segment (x : Box) (r : Report) (y : Box) :
    (s.setReport x r).segment y = s.segment y := rfl
@[simp] theorem State.setReport_window (x : Box) (r : Report) (y : Box) : (s.setReport x r).window y = s.window y := rfl
@[simp] theorem State.setReport_lane (x : Box) (r : Report) (y : Box) : (s.setReport x r).lane y = s.lane y := rfl
@[simp] theorem State.setReport_style (x : Box) (r : Report) : (s.setReport x r).style = s.style := rfl
@[simp] theorem State.setReport_geometry (x : Box) (r : Report) : (s.setReport x r).geometry = s.geometry := rfl
@[simp] theorem State.setReport_measurement (x : Box) (r : Report) :
    (s.setReport x r).measurement = s.measurement := rfl
@[simp] theorem State.setReport_actuators (x : Box) (r : Report) : (s.setReport x r).actuators = s.actuators := rfl
@[simp] theorem State.setReport_laneBExists (x : Box) (r : Report) :
    (s.setReport x r).laneBExists = s.laneBExists := rfl
@[simp] theorem State.setReport_laneExists (x : Box) (r : Report) (y : Box) :
    (s.setReport x r).laneExists y = s.laneExists y := rfl
@[simp] theorem State.setReport_inUse (x : Box) (r : Report) (y : Box) : (s.setReport x r).inUse y = s.inUse y := rfl
@[simp] theorem State.setReport_role (x : Box) (r : Report) (q : Port) : (s.setReport x r).role q = s.role q := rfl
@[simp] theorem State.setReport_zoneRange (x : Box) (r : Report) (z : Zone) :
    (s.setReport x r).zoneRange z = s.zoneRange z := rfl

@[simp] theorem State.setWindow_port (x : Box) (w : List Nat) (q : Port) : (s.setWindow x w).port q = s.port q := rfl
@[simp] theorem State.setWindow_roll (x : Box) (w : List Nat) (y : Box) : (s.setWindow x w).roll y = s.roll y := rfl
@[simp] theorem State.setWindow_soak (x : Box) (w : List Nat) (y : Box) : (s.setWindow x w).soak y = s.soak y := rfl
@[simp] theorem State.setWindow_segment (x : Box) (w : List Nat) (y : Box) :
    (s.setWindow x w).segment y = s.segment y := rfl
@[simp] theorem State.setWindow_report (x : Box) (w : List Nat) (y : Box) :
    (s.setWindow x w).report y = s.report y := rfl
@[simp] theorem State.setWindow_lane (x : Box) (w : List Nat) (y : Box) : (s.setWindow x w).lane y = s.lane y := rfl
@[simp] theorem State.setWindow_style (x : Box) (w : List Nat) : (s.setWindow x w).style = s.style := rfl
@[simp] theorem State.setWindow_geometry (x : Box) (w : List Nat) : (s.setWindow x w).geometry = s.geometry := rfl
@[simp] theorem State.setWindow_measurement (x : Box) (w : List Nat) :
    (s.setWindow x w).measurement = s.measurement := rfl
@[simp] theorem State.setWindow_actuators (x : Box) (w : List Nat) : (s.setWindow x w).actuators = s.actuators := rfl
@[simp] theorem State.setWindow_laneBExists (x : Box) (w : List Nat) :
    (s.setWindow x w).laneBExists = s.laneBExists := rfl
@[simp] theorem State.setWindow_laneExists (x : Box) (w : List Nat) (y : Box) :
    (s.setWindow x w).laneExists y = s.laneExists y := rfl
@[simp] theorem State.setWindow_inUse (x : Box) (w : List Nat) (y : Box) : (s.setWindow x w).inUse y = s.inUse y := rfl
@[simp] theorem State.setWindow_role (x : Box) (w : List Nat) (q : Port) : (s.setWindow x w).role q = s.role q := rfl
@[simp] theorem State.setWindow_zoneRange (x : Box) (w : List Nat) (z : Zone) :
    (s.setWindow x w).zoneRange z = s.zoneRange z := rfl

@[simp] theorem State.emptyWindow_port (x : Box) (q : Port) : (s.emptyWindow x).port q = s.port q := rfl
@[simp] theorem State.emptyWindow_roll (x : Box) (y : Box) : (s.emptyWindow x).roll y = s.roll y := rfl
@[simp] theorem State.emptyWindow_soak (x : Box) (y : Box) : (s.emptyWindow x).soak y = s.soak y := rfl
@[simp] theorem State.emptyWindow_segment (x : Box) (y : Box) : (s.emptyWindow x).segment y = s.segment y := rfl
@[simp] theorem State.emptyWindow_report (x : Box) (y : Box) : (s.emptyWindow x).report y = s.report y := rfl
@[simp] theorem State.emptyWindow_lane (x : Box) (y : Box) : (s.emptyWindow x).lane y = s.lane y := rfl
@[simp] theorem State.emptyWindow_style (x : Box) : (s.emptyWindow x).style = s.style := rfl
@[simp] theorem State.emptyWindow_geometry (x : Box) : (s.emptyWindow x).geometry = s.geometry := rfl
@[simp] theorem State.emptyWindow_measurement (x : Box) : (s.emptyWindow x).measurement = s.measurement := rfl
@[simp] theorem State.emptyWindow_actuators (x : Box) : (s.emptyWindow x).actuators = s.actuators := rfl
@[simp] theorem State.emptyWindow_laneBExists (x : Box) : (s.emptyWindow x).laneBExists = s.laneBExists := rfl
@[simp] theorem State.emptyWindow_laneExists (x : Box) (y : Box) :
    (s.emptyWindow x).laneExists y = s.laneExists y := rfl
@[simp] theorem State.emptyWindow_inUse (x : Box) (y : Box) : (s.emptyWindow x).inUse y = s.inUse y := rfl
@[simp] theorem State.emptyWindow_role (x : Box) (q : Port) : (s.emptyWindow x).role q = s.role q := rfl
@[simp] theorem State.emptyWindow_zoneRange (x : Box) (z : Zone) : (s.emptyWindow x).zoneRange z = s.zoneRange z := rfl

@[simp] theorem State.setBeam_port (o : Option OpenBeam) (q : Port) : (s.setBeam o).port q = s.port q := rfl
@[simp] theorem State.setBeam_roll (o : Option OpenBeam) (y : Box) : (s.setBeam o).roll y = s.roll y := rfl
@[simp] theorem State.setBeam_soak (o : Option OpenBeam) (y : Box) : (s.setBeam o).soak y = s.soak y := rfl
@[simp] theorem State.setBeam_segment (o : Option OpenBeam) (y : Box) : (s.setBeam o).segment y = s.segment y := rfl
@[simp] theorem State.setBeam_report (o : Option OpenBeam) (y : Box) : (s.setBeam o).report y = s.report y := rfl
@[simp] theorem State.setBeam_window (o : Option OpenBeam) (y : Box) : (s.setBeam o).window y = s.window y := rfl
@[simp] theorem State.setBeam_lane (o : Option OpenBeam) (y : Box) : (s.setBeam o).lane y = s.lane y := rfl
@[simp] theorem State.setBeam_style (o : Option OpenBeam) : (s.setBeam o).style = s.style := rfl
@[simp] theorem State.setBeam_geometry (o : Option OpenBeam) : (s.setBeam o).geometry = s.geometry := rfl
@[simp] theorem State.setBeam_measurement (o : Option OpenBeam) : (s.setBeam o).measurement = s.measurement := rfl
@[simp] theorem State.setBeam_actuators (o : Option OpenBeam) : (s.setBeam o).actuators = s.actuators := rfl
@[simp] theorem State.setBeam_laneBExists (o : Option OpenBeam) : (s.setBeam o).laneBExists = s.laneBExists := rfl
@[simp] theorem State.setBeam_laneExists (o : Option OpenBeam) (y : Box) :
    (s.setBeam o).laneExists y = s.laneExists y := rfl
@[simp] theorem State.setBeam_inUse (o : Option OpenBeam) (y : Box) : (s.setBeam o).inUse y = s.inUse y := rfl
@[simp] theorem State.setBeam_role (o : Option OpenBeam) (q : Port) : (s.setBeam o).role q = s.role q := rfl
@[simp] theorem State.setBeam_zoneRange (o : Option OpenBeam) (z : Zone) :
    (s.setBeam o).zoneRange z = s.zoneRange z := rfl

@[simp] theorem State.post_roll (f : Flag) (y : Box) : (s.post f).roll y = s.roll y := rfl
@[simp] theorem State.post_soak (f : Flag) (y : Box) : (s.post f).soak y = s.soak y := rfl
@[simp] theorem State.post_segment (f : Flag) (y : Box) : (s.post f).segment y = s.segment y := rfl
@[simp] theorem State.post_report (f : Flag) (y : Box) : (s.post f).report y = s.report y := rfl
@[simp] theorem State.post_window (f : Flag) (y : Box) : (s.post f).window y = s.window y := rfl
@[simp] theorem State.post_lane (f : Flag) (y : Box) : (s.post f).lane y = s.lane y := rfl
@[simp] theorem State.post_style (f : Flag) : (s.post f).style = s.style := rfl
@[simp] theorem State.post_geometry (f : Flag) : (s.post f).geometry = s.geometry := rfl
@[simp] theorem State.post_measurement (f : Flag) : (s.post f).measurement = s.measurement := rfl
@[simp] theorem State.post_actuators (f : Flag) : (s.post f).actuators = s.actuators := rfl
@[simp] theorem State.post_laneBExists (f : Flag) : (s.post f).laneBExists = s.laneBExists := rfl
@[simp] theorem State.post_laneExists (f : Flag) (y : Box) : (s.post f).laneExists y = s.laneExists y := rfl
@[simp] theorem State.post_inUse (f : Flag) (y : Box) : (s.post f).inUse y = s.inUse y := rfl
@[simp] theorem State.post_role (f : Flag) (q : Port) : (s.post f).role q = s.role q := rfl
@[simp] theorem State.post_zoneRange (f : Flag) (z : Zone) : (s.post f).zoneRange z = s.zoneRange z := rfl

@[simp] theorem State.postTo_roll (p : Port) (f : Flag) (y : Box) : (s.postTo p f).roll y = s.roll y := rfl
@[simp] theorem State.postTo_soak (p : Port) (f : Flag) (y : Box) : (s.postTo p f).soak y = s.soak y := rfl
@[simp] theorem State.postTo_segment (p : Port) (f : Flag) (y : Box) : (s.postTo p f).segment y = s.segment y := rfl
@[simp] theorem State.postTo_report (p : Port) (f : Flag) (y : Box) : (s.postTo p f).report y = s.report y := rfl
@[simp] theorem State.postTo_window (p : Port) (f : Flag) (y : Box) : (s.postTo p f).window y = s.window y := rfl
@[simp] theorem State.postTo_lane (p : Port) (f : Flag) (y : Box) : (s.postTo p f).lane y = s.lane y := rfl
@[simp] theorem State.postTo_style (p : Port) (f : Flag) : (s.postTo p f).style = s.style := rfl
@[simp] theorem State.postTo_geometry (p : Port) (f : Flag) : (s.postTo p f).geometry = s.geometry := rfl
@[simp] theorem State.postTo_measurement (p : Port) (f : Flag) : (s.postTo p f).measurement = s.measurement := rfl
@[simp] theorem State.postTo_actuators (p : Port) (f : Flag) : (s.postTo p f).actuators = s.actuators := rfl
@[simp] theorem State.postTo_laneBExists (p : Port) (f : Flag) : (s.postTo p f).laneBExists = s.laneBExists := rfl
@[simp] theorem State.postTo_laneExists (p : Port) (f : Flag) (y : Box) :
    (s.postTo p f).laneExists y = s.laneExists y := rfl
@[simp] theorem State.postTo_inUse (p : Port) (f : Flag) (y : Box) : (s.postTo p f).inUse y = s.inUse y := rfl
@[simp] theorem State.postTo_role (p : Port) (f : Flag) (q : Port) : (s.postTo p f).role q = s.role q := rfl
@[simp] theorem State.postTo_zoneRange (p : Port) (f : Flag) (z : Zone) :
    (s.postTo p f).zoneRange z = s.zoneRange z := rfl

@[simp] theorem State.settleLock_port (p : Port) (hold : Bool) (q : Port) :
    (s.settleLock p hold).port q = s.port q := rfl
@[simp] theorem State.settleLock_roll (p : Port) (hold : Bool) (y : Box) :
    (s.settleLock p hold).roll y = s.roll y := rfl
@[simp] theorem State.settleLock_soak (p : Port) (hold : Bool) (y : Box) :
    (s.settleLock p hold).soak y = s.soak y := rfl
@[simp] theorem State.settleLock_segment (p : Port) (hold : Bool) (y : Box) :
    (s.settleLock p hold).segment y = s.segment y := rfl
@[simp] theorem State.settleLock_report (p : Port) (hold : Bool) (y : Box) :
    (s.settleLock p hold).report y = s.report y := rfl
@[simp] theorem State.settleLock_window (p : Port) (hold : Bool) (y : Box) :
    (s.settleLock p hold).window y = s.window y := rfl
@[simp] theorem State.settleLock_lane (p : Port) (hold : Bool) (y : Box) :
    (s.settleLock p hold).lane y = s.lane y := rfl
@[simp] theorem State.settleLock_style (p : Port) (hold : Bool) : (s.settleLock p hold).style = s.style := rfl
@[simp] theorem State.settleLock_geometry (p : Port) (hold : Bool) : (s.settleLock p hold).geometry = s.geometry := rfl
@[simp] theorem State.settleLock_measurement (p : Port) (hold : Bool) :
    (s.settleLock p hold).measurement = s.measurement := rfl
@[simp] theorem State.settleLock_actuators (p : Port) (hold : Bool) :
    (s.settleLock p hold).actuators = s.actuators := rfl
@[simp] theorem State.settleLock_laneBExists (p : Port) (hold : Bool) :
    (s.settleLock p hold).laneBExists = s.laneBExists := rfl
@[simp] theorem State.settleLock_laneExists (p : Port) (hold : Bool) (y : Box) :
    (s.settleLock p hold).laneExists y = s.laneExists y := rfl
@[simp] theorem State.settleLock_inUse (p : Port) (hold : Bool) (y : Box) :
    (s.settleLock p hold).inUse y = s.inUse y := rfl
@[simp] theorem State.settleLock_role (p : Port) (hold : Bool) (q : Port) :
    (s.settleLock p hold).role q = s.role q := rfl
@[simp] theorem State.settleLock_zoneRange (p : Port) (hold : Bool) (z : Zone) :
    (s.settleLock p hold).zoneRange z = s.zoneRange z := rfl

@[simp] theorem State.grant_roll (p : Port) (y : Box) : (s.grant p).roll y = s.roll y := rfl
@[simp] theorem State.grant_soak (p : Port) (y : Box) : (s.grant p).soak y = s.soak y := rfl
@[simp] theorem State.grant_segment (p : Port) (y : Box) : (s.grant p).segment y = s.segment y := rfl
@[simp] theorem State.grant_report (p : Port) (y : Box) : (s.grant p).report y = s.report y := rfl
@[simp] theorem State.grant_window (p : Port) (y : Box) : (s.grant p).window y = s.window y := rfl
@[simp] theorem State.grant_lane (p : Port) (y : Box) : (s.grant p).lane y = s.lane y := rfl
@[simp] theorem State.grant_style (p : Port) : (s.grant p).style = s.style := rfl
@[simp] theorem State.grant_geometry (p : Port) : (s.grant p).geometry = s.geometry := rfl
@[simp] theorem State.grant_measurement (p : Port) : (s.grant p).measurement = s.measurement := rfl
@[simp] theorem State.grant_actuators (p : Port) : (s.grant p).actuators = s.actuators := rfl
@[simp] theorem State.grant_laneBExists (p : Port) : (s.grant p).laneBExists = s.laneBExists := rfl
@[simp] theorem State.grant_laneExists (p : Port) (y : Box) : (s.grant p).laneExists y = s.laneExists y := rfl
@[simp] theorem State.grant_inUse (p : Port) (y : Box) : (s.grant p).inUse y = s.inUse y := rfl
@[simp] theorem State.grant_role (p : Port) (q : Port) : (s.grant p).role q = s.role q := rfl
@[simp] theorem State.grant_zoneRange (p : Port) (z : Zone) : (s.grant p).zoneRange z = s.zoneRange z := rfl

@[simp] theorem State.post_port (f : Flag) (q : Port) : (s.post f).port q = (s.port q).withEvent f :=
  PerPort.get_map _ _ _
@[simp] theorem State.emptyWindow_window_same (x : Box) : (s.emptyWindow x).window x = [] := PerBox.get_set_same _ _ _

end places

end Sys2Proof.Machine
end

