-- ==== Sys2Proof/Laws/Engine.lean ====
section
/-! SUPPORT. The Command Engine once over: what a granted command, a command behind a lock and a refused command give,
and that the grant passes through the shared updates. A proof about a command cites `run_admits` and `answer_grant`. -/

namespace Sys2Proof.Machine

variable {s : State} {p : Port}

/-! ### The grant passes through the updates -/

theorem State.grant_post (s : State) (p : Port) (f : Flag) : (s.grant p).post f = (s.post f).grant p := by
  cases p <;> rfl

theorem State.grant_postIf (s : State) (p : Port) (c : Bool) (f : Flag) :
    (s.grant p).postIf c f = (s.postIf c f).grant p := by
  cases c
  · rfl
  · exact State.grant_post s p f

theorem State.grant_postTo (s : State) (p q : Port) (f : Flag) : (s.grant p).postTo q f = (s.postTo q f).grant p := by
  cases p <;> cases q <;> rfl

theorem State.grant_port_same (s : State) (p : Port) :
    (s.grant p).port p = { s.port p with state := .executing, queued := [] } := PerPort.get_set_same _ _ _

theorem State.grant_port_ne (s : State) {p q : Port} (h : q ≠ p) : (s.grant p).port q = s.port q :=
  PerPort.get_set_ne _ _ h

/-- A write of the granted port's own controller: the grant passes through it when the write keeps port state and
queued frame as they were. -/
theorem State.grant_setPort (s : State) (p : Port) (u : PortUnit) :
    (s.grant p).setPort p { u with state := .executing, queued := [] } = (s.setPort p u).grant p := by
  cases p <;> rfl

/-! ### Guard, permission and lock see through the grant -/

@[simp] theorem State.grant_guardHolds (s : State) (p : Port) (g : BitVec 3) :
    (s.grant p).guardHolds g = s.guardHolds g := rfl

/-! ### The answer -/

/-- The answer to a command whose effects leave `t` behind the grant is `t` replied. -/
theorem answer_grant (h : Hdr) (t : State) (status : Status) (data : List Byte) :
    answer h ⟨t.grant h.port, status, data, false⟩ = t.replied h status data := by
  obtain ⟨p, tag, hold, guard⟩ := h
  cases p <;> cases hold <;> rfl

/-- The answer to a command that leaves its port no lock. -/
theorem answer_grant_drop (h : Hdr) (t : State) (status : Status) (data : List Byte) :
    answer h ⟨t.grant h.port, status, data, true⟩
      = { t.replied h status data with arbiter := ⟨nextPort h.port, none, none⟩ } := by
  obtain ⟨p, tag, hold, guard⟩ := h
  cases p <;> cases hold <;> rfl

theorem serve_takes {h : Hdr} {frame : List Byte} {checked : State → Served} (ht : s.takes h.port) :
    serve h frame checked s = answer h (checked (s.grant h.port)) := by
  obtain ⟨hp, hh, hl⟩ := ht
  simp [serve, State.whenRunning, hp, hh, hl]

/-- A command the card takes and admits is the answer to its own work on the granted state. -/
theorem run_admits {h : Hdr} {frame : List Byte} {k : CmdKind} {work : State → Served} (ha : s.admits h k) :
    run h frame k work s = .next (answer h (work (s.grant h.port))) := by
  obtain ⟨ht, hr, hg⟩ := ha
  simp only [run, serve_takes ht, engine, State.grant_guardHolds, State.grant_role, hr, hg]
  rfl

/-- A command refused or completing without effect. -/
theorem run_plain {h : Hdr} {frame : List Byte} {k : CmdKind} {work : State → Served} {status : Status}
    (ha : s.admits h k) (hw : work (s.grant h.port) = .plain (s.grant h.port) status) :
    run h frame k work s = .next (s.replied h status []) := by
  rw [run_admits ha, hw, Served.plain, answer_grant]

/-- A command done: its effects `t` behind the grant, its status and its data. -/
theorem run_done {h : Hdr} {frame : List Byte} {k : CmdKind} {work : State → Served} {t : State} {status : Status}
    {data : List Byte} (ha : s.admits h k) (hw : work (s.grant h.port) = .done (t.grant h.port) status data) :
    run h frame k work s = .next (t.replied h status data) := by
  rw [run_admits ha, hw, Served.done, answer_grant]

/-- A command of a role that is not permitted it. -/
theorem run_notPermitted {h : Hdr} {frame : List Byte} {k : CmdKind} {work : State → Served} (ht : s.takes h.port)
    (hr : permitted (s.role h.port) k = false) : run h frame k work s = .next (s.replied h .notPermitted []) := by
  simp only [run, serve_takes ht, engine, State.grant_role, hr]
  exact congrArg _ (answer_grant h s _ _)

/-- A command whose guard is false. -/
theorem run_skipped {h : Hdr} {frame : List Byte} {k : CmdKind} {work : State → Served} (ht : s.takes h.port)
    (hr : permitted (s.role h.port) k = true) (hg : s.guardHolds h.guard = false) :
    run h frame k work s = .next (s.replied h .skipped []) := by
  simp only [run, serve_takes ht, engine, State.grant_guardHolds, State.grant_role, hr, hg]
  exact congrArg _ (answer_grant h s _ _)

/-- A command behind another port's lock is offered to its own port (log entry 10). -/
theorem serve_lockedOut {h : Hdr} {frame : List Byte} {checked : State → Served} (hp : s.power = .running)
    (hh : s.hold = none) (hl : s.lockedOut h.port = true) :
    serve h frame checked s = s.offer h.port frame := by
  simp [serve, State.whenRunning, hp, hh, hl]

/-- What waiting behind a lock can do: it changes the one port alone. -/
theorem State.offer_eq (s : State) (p : Port) (frame : List Byte) : ∃ u, s.offer p frame = s.setPort p u := by
  unfold State.offer
  split
  · exact ⟨s.port p, by simp [State.setPort, State.port]⟩
  · split
    · exact ⟨_, rfl⟩
    · exact ⟨_, rfl⟩
    all_goals exact ⟨s.port p, by simp [State.setPort, State.port]⟩

/-- What the engine can do: refuse, skip, or the command's own work, each on the granted state. -/
theorem engine_cases (h : Hdr) (k : CmdKind) (work : State → Served) (g : State) :
    engine h k work g = .plain g .notPermitted ∨ engine h k work g = .plain g .skipped
      ∨ engine h k work g = work g := by
  unfold engine
  split
  · exact .inl rfl
  · split
    · exact .inr (.inl rfl)
    · exact .inr (.inr rfl)

/-- What a master's command can do, whatever its own work: nothing while the card is held or in its start-up hold;
waiting behind a lock, a change of its own port; granted, the answer to what it was checked to. -/
theorem serve_cases (h : Hdr) (frame : List Byte) (checked : State → Served) (s : State) :
    serve h frame checked s = s ∨ (∃ u, serve h frame checked s = s.setPort h.port u)
      ∨ (s.takes h.port ∧ serve h frame checked s = answer h (checked (s.grant h.port))) := by
  by_cases hp : s.power = .running
  · by_cases hh : s.hold = none
    · by_cases hl : s.lockedOut h.port = true
      · obtain ⟨u, hu⟩ := s.offer_eq h.port frame
        exact .inr (.inl ⟨u, by rw [serve_lockedOut hp hh hl, hu]⟩)
      · exact .inr (.inr ⟨⟨hp, hh, by simpa using hl⟩, serve_takes ⟨hp, hh, by simpa using hl⟩⟩)
    · left; cases hx : s.hold <;> simp_all [serve, State.whenRunning]
  · left; simp [serve, State.whenRunning, hp]

end Sys2Proof.Machine
end

