-- ==== Sys2Proof/Laws/Frames.lean ====
section
/-! SUPPORT. Bytes and frames once over: what an encoder writes is read back, how long each value and each frame is, and
that a sealed frame carries a matching check word. -/

namespace Sys2Proof

/-! ### Byte order -/

theorem be16_eq (w : Word) : be16 w = [w.extractLsb' 8 8, w.extractLsb' 0 8] := rfl

theorem be32_eq (w : Long) :
    be32 w = [w.extractLsb' 24 8, w.extractLsb' 16 8, w.extractLsb' 8 8, w.extractLsb' 0 8] := rfl

@[simp] theorem word16_extract (w : Word) : word16 (w.extractLsb' 8 8) (w.extractLsb' 0 8) = w := by
  simp only [word16]
  ext i hi
  simp only [BitVec.getElem_append, BitVec.getElem_extractLsb']
  split
  · next h => simp [BitVec.getLsbD_eq_getElem, hi]
  · next h =>
    have : 8 + (i - 8) = i := by omega
    simp [this, BitVec.getLsbD_eq_getElem, hi]

@[simp] theorem word32_extract (w : Long) :
    word32 (w.extractLsb' 24 8) (w.extractLsb' 16 8) (w.extractLsb' 8 8) (w.extractLsb' 0 8) = w := by
  simp only [word32]
  ext i hi
  simp only [BitVec.getElem_append, BitVec.getElem_extractLsb']
  split
  · simp [BitVec.getLsbD_eq_getElem, hi]
  · split
    · have : 8 + (i - 8) = i := by omega
      simp [this, BitVec.getLsbD_eq_getElem, hi]
    · split
      · have : 16 + (i - 8 - 8) = i := by omega
        simp [this, BitVec.getLsbD_eq_getElem, hi]
      · have : 24 + (i - 8 - 8 - 8) = i := by omega
        simp [this, BitVec.getLsbD_eq_getElem, hi]

/-! ### Lengths -/

@[simp] theorem be16_length (w : Word) : (be16 w).length = 2 := rfl
@[simp] theorem be32_length (w : Long) : (be32 w).length = 4 := rfl

@[simp] theorem encodePoints_length (ps : List RawPoint) : (encodePoints ps).length = 4 * ps.length := by
  induction ps with
  | nil => rfl
  | cons p ps ih => simp only [encodePoints, List.length_append, be16_length, ih, List.length_cons]; omega

@[simp] theorem sealFrame_length (body : List Byte) : (sealFrame body).length = body.length + 2 := by
  simp [sealFrame]

@[simp] theorem FrameParts.frame_length (f : FrameParts) : f.frame.length = f.params.length + 7 := by
  simp [FrameParts.frame]

@[simp] theorem RawGeometry.bytes_length (g : RawGeometry) : g.bytes.length = 39 := rfl

/-! ### The check word -/

/-- A sealed frame carries a matching check word. -/
theorem checkWordMatches_sealFrame (body : List Byte) : checkWordMatches (sealFrame body) = true := by
  have h : (sealFrame body).length - 2 = body.length := by simp
  rw [checkWordMatches, h, sealFrame, List.drop_left, List.take_left]
  exact beq_self_eq_true _

/-! ### Points -/

/-- The points an encoder writes are read back. -/
@[simp] theorem decodePoints_encodePoints (ps : List RawPoint) : decodePoints (encodePoints ps) = some ps := by
  induction ps with
  | nil => rfl
  | cons p ps ih => simp [encodePoints, be16_eq, decodePoints, ih]

/-! ### The flags byte -/

@[simp] theorem flagsByte_hold (hold : Bool) (r : BitVec 4) (g : BitVec 3) :
    (flagsByte hold r g).getLsbD 7 = hold := by
  revert hold r g; decide

@[simp] theorem flagsByte_guard (hold : Bool) (r : BitVec 4) (g : BitVec 3) :
    (flagsByte hold r g).extractLsb' 0 3 = g := by
  revert hold r g; decide

@[simp] theorem flagsByte_reserved (hold : Bool) (r : BitVec 4) (g : BitVec 3) :
    (flagsByte hold r g).extractLsb' 3 4 = r := by
  revert hold r g; decide

/-! ### Codes -/

/-- Figure 10-3 gives no two commands one code. -/
theorem CmdKind.ofCode_code (k : CmdKind) : CmdKind.ofCode k.code = some k := by
  cases k <;> decide

end Sys2Proof

namespace Sys2Proof.Machine

@[simp] theorem u8_length (n : Nat) : (u8 n).length = 1 := rfl
@[simp] theorem u16_length (n : Nat) : (u16 n).length = 2 := rfl
@[simp] theorem u32_length (n : Nat) : (u32 n).length = 4 := rfl
@[simp] theorem u64_length (n : Nat) : (u64 n).length = 8 := rfl
@[simp] theorem s16_length (i : Int) : (s16 i).length = 2 := rfl
@[simp] theorem flag8_length (b : Bool) : (flag8 b).length = 1 := rfl
@[simp] theorem opt16_length (o : Option Nat) : (opt16 o).length = 2 := rfl
@[simp] theorem opt32_length (o : Option Nat) : (opt32 o).length = 4 := rfl
@[simp] theorem absentByte_length (fields : List Bool) : (absentByte fields).length = 1 := rfl

/-- A result frame is seven bytes longer than its data. -/
@[simp] theorem resultFrame_length (tag : Byte) (status : Status) (attention : Bool) (data : List Byte) :
    (resultFrame tag status attention data).length = data.length + 7 := by
  simp [resultFrame]

/-- A result frame carries a matching check word. -/
theorem checkWordMatches_resultFrame (tag : Byte) (status : Status) (attention : Bool) (data : List Byte) :
    checkWordMatches (resultFrame tag status attention data) = true := checkWordMatches_sealFrame _

end Sys2Proof.Machine
end

