-- ==== Sys2Proof/Laws/Ops.lean ====
section
/-! SUPPORT. The shared operations once over: for each, one lemma that says everything it can do. -/

namespace Sys2Proof.Machine

/-! ### Arithmetic -/

/-- Rounding half up puts twice the quotient within one divisor of twice the dividend, an exact half above. -/
theorem roundHalfUp_bounds (n : Nat) {d : Nat} (hd : 0 < d) :
    2 * roundHalfUp n d * d ≤ 2 * n + d ∧ 2 * n < 2 * roundHalfUp n d * d + d := by
  unfold roundHalfUp
  have h1 := Nat.div_add_mod n d
  have h2 := Nat.mod_lt n hd
  generalize n / d = q at *
  generalize n % d = r at *
  subst h1
  have e : ∀ k : Nat, 2 * (q + k) * d = 2 * (d * q) + 2 * k * d := fun k => by ring
  split
  · rw [e 1]; omega
  · rw [e 0]; omega

/-- Rounding half down: an exact half goes below. -/
theorem roundHalfDown_bounds (n : Nat) {d : Nat} (hd : 0 < d) :
    2 * roundHalfDown n d * d < 2 * n + d ∧ 2 * n ≤ 2 * roundHalfDown n d * d + d := by
  unfold roundHalfDown
  have h1 := Nat.div_add_mod n d
  have h2 := Nat.mod_lt n hd
  generalize n / d = q at *
  generalize n % d = r at *
  subst h1
  have e : ∀ k : Nat, 2 * (q + k) * d = 2 * (d * q) + 2 * k * d := fun k => by ring
  split
  · rw [e 1]; omega
  · rw [e 0]; omega

/-- The rounded quotient of a dividend that does not exceed k divisors does not exceed k. -/
theorem roundHalfUp_le {n d k : Nat} (hd : 0 < d) (h : n ≤ k * d) : roundHalfUp n d ≤ k := by
  have hb := (roundHalfUp_bounds n hd).1
  by_contra hlt
  have h2 : (k + 1) * d ≤ roundHalfUp n d * d := Nat.mul_le_mul_right d (by omega)
  have e1 : 2 * roundHalfUp n d * d = 2 * (roundHalfUp n d * d) := by ring
  have e2 : (k + 1) * d = k * d + d := by ring
  omega

theorem roundHalfUp_zero (d : Nat) (hd : 0 < d) : roundHalfUp 0 d = 0 := by
  simp [roundHalfUp]; omega

/-- Dividing out a common factor of one part: a mean of one part is that part. -/
theorem roundHalfUp_mul_self (v : Nat) {d : Nat} (hd : 0 < d) : roundHalfUp (v * d) d = v := by
  simp [roundHalfUp, Nat.mul_div_cancel _ hd]; omega

theorem pushRing_length {α : Type} (size : Nat) (ring : List α) (x : α) :
    (pushRing size ring x).length = min (ring.length + 1) size := by
  simp [pushRing]; omega

/-! ### Events -/

/-- A posting changes the event sets alone, and only by adding the flag when its condition holds. -/
theorem State.postIf_eq (s : State) (c : Bool) (f : Flag) :
    s.postIf c f = { s with ports := s.ports.map fun u =>
      { u with events := u.events ||| (if c then f.set else 0) } } := by
  cases c
  · simp [State.postIf, PerPort.map]
  · rfl

theorem State.postTo_eq (s : State) (p : Port) (f : Flag) :
    s.postTo p f = { s with ports := s.ports.set p { s.port p with events := (s.port p).events ||| f.set } } := rfl

theorem State.post_eq (s : State) (f : Flag) :
    s.post f = { s with ports := s.ports.map fun u => { u with events := u.events ||| f.set } } := rfl

/-! ### Causes -/

/-- Adding causes changes the cause set of one open segment, and that only where the lane exists. -/
theorem State.addCauses_eq (s : State) (x : Box) (c : CauseSet) :
    s.addCauses x c = s.setSegment x { s.segment x with
      causes := (s.segment x).causes ||| (if s.laneExists x then c else 0) } := by
  unfold State.addCauses
  split
  · rfl
  · cases x <;> simp [State.setSegment, State.segment, PerBox.get, PerBox.set]

theorem State.addCausesInUse_eq (s : State) (x : Box) (c : CauseSet) :
    s.addCausesInUse x c = s.setSegment x { s.segment x with
      causes := (s.segment x).causes ||| (if s.inUse x then c else 0) } := by
  unfold State.addCausesInUse
  split
  · next h =>
    have hl : s.laneExists x = true := by
      simp only [State.inUse, Bool.and_eq_true] at h; exact h.1
    rw [State.addCauses_eq, hl]
    rfl
  · cases x <;> simp [State.setSegment, State.segment, PerBox.get, PerBox.set]

/-- Opening a segment replaces that segment alone: no pulses, the causes given and those standing for a box in use. -/
theorem State.openSegment_eq (s : State) (x : Box) (extra : CauseSet) :
    s.openSegment x extra = s.setSegment x ⟨0, if s.laneExists x then
      extra ||| (if s.inUse x then s.standingCauses x else 0) else 0⟩ := by
  unfold State.openSegment
  split
  · rw [State.addCausesInUse_eq]
    rw [State.setSegment_inUse, State.segment_setSegment_same]
    simp only [State.setSegment, PerBox.set_set]
    rfl
  · rfl

/-! ### Zones -/

/-- Adding to a zone changes the path's slots alone: the records of the zone's range in its lane. -/
theorem State.addToZone_path (s : State) (z : Zone) (c : CauseSet) (d : Nat) :
    s.addToZone z c d = { s with path := { s.path with
      lanes := (s.addToZone z c d).path.lanes, main := (s.addToZone z c d).path.main } } := by
  unfold State.addToZone
  split
  · cases z <;> rfl
  · rfl

theorem mapRange_length {α : Type} (r : ZoneRange) (f : α → α) (l : List (Option α)) :
    (mapRange r f l).length = l.length := by simp [mapRange]

theorem mapRange_getElem? {α : Type} (r : ZoneRange) (f : α → α) (l : List (Option α)) (i : Nat) :
    (mapRange r f l)[i]? = l[i]?.map fun slot => if r.first ≤ i ∧ i ≤ r.last then slot.map f else slot := by
  simp [mapRange]

/-- A function that keeps what is read of a record keeps the reading of the lane. -/
theorem mapRange_map {α β : Type} (r : ZoneRange) (f : α → α) (g : α → β) (h : ∀ x, g (f x) = g x)
    (l : List (Option α)) : (mapRange r f l).map (fun x => x.map g) = l.map fun x => x.map g := by
  apply List.ext_getElem?
  intro i
  simp only [List.getElem?_map, mapRange_getElem?, Option.map_map]
  cases l[i]? with
  | none => rfl
  | some slot =>
    simp only [Option.map_some, Function.comp]
    split
    · cases slot <;> simp [h]
    · rfl

end Sys2Proof.Machine
end

