-- ==== Sys2Proof/Laws/PerInstr.lean ====
section
/-! SUPPORT. Statements made command by command, one lemma for each constructor of `Instr`. -/

namespace Sys2Proof.Laws.FrameFits

/-- The frame of a well-formed command is 7 to 64 bytes long (R136, Figure 10-1). -/
def Statement (i : Instr) : Prop :=
  i.wellFormed = true → ∀ f, i.parts = some f → 7 ≤ f.frame.length ∧ f.frame.length ≤ 64

/-- A frame fits exactly when its parameters number at most 57. -/
theorem of_params {f : FrameParts} (h : f.params.length ≤ 57) : 7 ≤ f.frame.length ∧ f.frame.length ≤ 64 := by
  rw [FrameParts.frame_length]; omega

theorem trackPulse : Statement .trackPulse := by
  rintro - f ⟨⟩
theorem feedPulse : Statement .feedPulse := by
  rintro - f ⟨⟩
theorem liquorPulse (box : Box) : Statement (.liquorPulse box) := by
  rintro - f ⟨⟩
theorem homeSwitchActive (box : Box) (level : Bool) : Statement (.homeSwitchActive box level) := by
  rintro - f ⟨⟩
theorem gaugeSample (current : Nat) : Statement (.gaugeSample current) := by
  rintro - f ⟨⟩
theorem standstillTimeout : Statement .standstillTimeout := by
  rintro - f ⟨⟩
theorem intervalTimerExpiry : Statement .intervalTimerExpiry := by
  rintro - f ⟨⟩
theorem rampTimerExpiry : Statement .rampTimerExpiry := by
  rintro - f ⟨⟩
theorem ageTimerExpiry (box : Box) : Statement (.ageTimerExpiry box) := by
  rintro - f ⟨⟩
theorem autoLiftExpiry : Statement .autoLiftExpiry := by
  rintro - f ⟨⟩
theorem fieldResetExpiry : Statement .fieldResetExpiry := by
  rintro - f ⟨⟩
theorem rollStep (box : Box) : Statement (.rollStep box) := by
  rintro - f ⟨⟩
theorem jetTimerExpiry (jet : Jet) : Statement (.jetTimerExpiry jet) := by
  rintro - f ⟨⟩
theorem lockGapExpiry : Statement .lockGapExpiry := by
  rintro - f ⟨⟩
theorem gapLimitExpiry (port : Port) : Statement (.gapLimitExpiry port) := by
  rintro - f ⟨⟩
theorem frameComplete (port : Port) : Statement (.frameComplete port) := by
  rintro - f ⟨⟩
theorem frameInError (port : Port) : Statement (.frameInError port) := by
  rintro - f ⟨⟩
theorem frameOverlap (port : Port) : Statement (.frameOverlap port) := by
  rintro - f ⟨⟩
theorem lineBreak (port : Port) : Statement (.lineBreak port) := by
  rintro - f ⟨⟩
theorem replySent (port : Port) : Statement (.replySent port) := by
  rintro - f ⟨⟩
theorem storeEnd : Statement .storeEnd := by
  rintro - f ⟨⟩
theorem retentionMarkWrite : Statement .retentionMarkWrite := by
  rintro - f ⟨⟩
theorem cardStart (retainSupply : Bool) : Statement (.cardStart retainSupply) := by
  rintro - f ⟨⟩
theorem startUpHoldEnd : Statement .startUpHoldEnd := by
  rintro - f ⟨⟩
theorem readStatus (h : Hdr) : Statement (.readStatus h) := by
  rintro - f ⟨⟩; exact of_params (by simp [FrameParts.listed])
theorem readSegment (h : Hdr) (lane : Byte) (position : Word) : Statement (.readSegment h lane position) := by
  rintro - f ⟨⟩; exact of_params (by simp [FrameParts.listed])
theorem find (h : Hdr) (lane : Byte) (start : Word) (field mode : Byte) (value : Long) :
    Statement (.find h lane start field mode value) := by
  rintro - f ⟨⟩; exact of_params (by simp [FrameParts.listed])
theorem selectStyle (h : Hdr) (index : Byte) : Statement (.selectStyle h index) := by
  rintro - f ⟨⟩; exact of_params (by simp [FrameParts.listed])
theorem readStyle (h : Hdr) (group : Byte) : Statement (.readStyle h group) := by
  rintro - f ⟨⟩; exact of_params (by simp [FrameParts.listed])
theorem readMachine (h : Hdr) (group : Byte) : Statement (.readMachine h group) := by
  rintro - f ⟨⟩; exact of_params (by simp [FrameParts.listed])
theorem exchangeEvents (h : Hdr) (clear : Word) : Statement (.exchangeEvents h clear) := by
  rintro - f ⟨⟩; exact of_params (by simp [FrameParts.listed])
theorem setAttentionMask (h : Hdr) (mask : Word) (keep : Byte) : Statement (.setAttentionMask h mask keep) := by
  rintro - f ⟨⟩; exact of_params (by simp [FrameParts.listed])
theorem snap (h : Hdr) (source age : Byte) : Statement (.snap h source age) := by
  rintro - f ⟨⟩; exact of_params (by simp [FrameParts.listed])
theorem readSnap (h : Hdr) (part start : Byte) : Statement (.readSnap h part start) := by
  rintro - f ⟨⟩; exact of_params (by simp [FrameParts.listed])
theorem doff (h : Hdr) : Statement (.doff h) := by
  rintro - f ⟨⟩; exact of_params (by simp [FrameParts.listed])
theorem closeSet (h : Hdr) : Statement (.closeSet h) := by
  rintro - f ⟨⟩; exact of_params (by simp [FrameParts.listed])
theorem setTarget (h : Hdr) (metres : Word) : Statement (.setTarget h metres) := by
  rintro - f ⟨⟩; exact of_params (by simp [FrameParts.listed])
theorem clearPath (h : Hdr) : Statement (.clearPath h) := by
  rintro - f ⟨⟩; exact of_params (by simp [FrameParts.listed])
theorem moveRoll (h : Hdr) (box mode : Byte) (value : Word) : Statement (.moveRoll h box mode value) := by
  rintro - f ⟨⟩; exact of_params (by simp [FrameParts.listed])
theorem homeRoll (h : Hdr) (box : Byte) : Statement (.homeRoll h box) := by
  rintro - f ⟨⟩; exact of_params (by simp [FrameParts.listed])
theorem collect (h : Hdr) (box : Byte) : Statement (.collect h box) := by
  rintro - f ⟨⟩; exact of_params (by simp [FrameParts.listed])
theorem resetField (h : Hdr) : Statement (.resetField h) := by
  rintro - f ⟨⟩; exact of_params (by simp [FrameParts.listed])
theorem reportBox (h : Hdr) (box : Byte) (concentration density : Word) :
    Statement (.reportBox h box concentration density) := by
  rintro - f ⟨⟩; exact of_params (by simp [FrameParts.listed])
theorem zoneHeat (h : Hdr) (zone setting : Byte) : Statement (.zoneHeat h zone setting) := by
  rintro - f ⟨⟩; exact of_params (by simp [FrameParts.listed])
theorem writeStyle (h : Hdr) (fields : StyleWrite) : Statement (.writeStyle h fields) := by
  rintro hw f ⟨⟩
  apply of_params
  cases fields with
  | curve box points =>
    have h : points.length ≤ 13 := by simpa [Instr.wellFormed, StyleWrite.wellFormed] using hw
    cases box <;> simp [FrameParts.listed, encodeStyleWrite] <;> omega
  | other group bytes =>
    have h : bytes.length ≤ 56 := by
      simp only [Instr.wellFormed, StyleWrite.wellFormed, Bool.and_eq_true, decide_eq_true_eq] at hw; exact hw.2
    simp [FrameParts.listed, encodeStyleWrite]; omega
  | yarn | boxes | bands | drying | masks => simp [FrameParts.listed, encodeStyleWrite]
theorem activateStyle (h : Hdr) (index : Byte) : Statement (.activateStyle h index) := by
  rintro - f ⟨⟩; exact of_params (by simp [FrameParts.listed])
theorem writeMachine (h : Hdr) (fields : MachineWrite) : Statement (.writeMachine h fields) := by
  rintro hw f ⟨⟩
  apply of_params
  cases fields with
  | other group bytes =>
    have h : bytes.length ≤ 56 := by
      simp only [Instr.wellFormed, MachineWrite.wellFormed, Bool.and_eq_true, decide_eq_true_eq] at hw; exact hw.2
    simp [FrameParts.listed, encodeMachineWrite]; omega
  | geometry | measurement | actuators | beam | ports => simp [FrameParts.listed, encodeMachineWrite]
theorem writeRoles (h : Hdr) (r0 r1 r2 r3 : Byte) : Statement (.writeRoles h r0 r1 r2 r3) := by
  rintro - f ⟨⟩; exact of_params (by simp [FrameParts.listed])
theorem storeSettings (h : Hdr) : Statement (.storeSettings h) := by
  rintro - f ⟨⟩; exact of_params (by simp [FrameParts.listed])
theorem planAppend (h : Hdr) (number target cut : Word) : Statement (.planAppend h number target cut) := by
  rintro - f ⟨⟩; exact of_params (by simp [FrameParts.listed])
theorem planClear (h : Hdr) : Statement (.planClear h) := by
  rintro - f ⟨⟩; exact of_params (by simp [FrameParts.listed])
theorem releaseBeam (h : Hdr) (age : Byte) : Statement (.releaseBeam h age) := by
  rintro - f ⟨⟩; exact of_params (by simp [FrameParts.listed])
theorem unknownCommandCode (h : Hdr) (code : Byte) (reserved : BitVec 4) (params : List Byte) :
    Statement (.unknownCommandCode h code reserved params) := by
  rintro hw f ⟨⟩
  apply of_params
  simp only [Instr.wellFormed, Bool.and_eq_true, decide_eq_true_eq] at hw
  exact hw.1
theorem characterReceived (port : Port) (char : Byte) (parityError framingError : Bool) :
    Statement (.characterReceived port char parityError framingError) := by
  rintro - f ⟨⟩
theorem markConditionReturn (port : Port) : Statement (.markConditionReturn port) := by
  rintro - f ⟨⟩

end Sys2Proof.Laws.FrameFits
end

