-- ==== Sys2Proof/Laws/Units.lean ====
section
/-! SUPPORT. The units' operations once over: depth conditions, completions, ramps and curves, soak and zone advance,
searches, fault ranges. A proof about a command cites these in place of unfolding them. -/

namespace Sys2Proof.Machine

/-! ### Box Control Unit -/

@[simp] theorem PressureChannel.limit_commanded (c : PressureChannel) (l : Nat) :
    (c.limit l).commanded = min c.commanded l := rfl
@[simp] theorem PressureChannel.limit_target (c : PressureChannel) (l : Nat) :
    (c.limit l).target = min c.target l := rfl

/-- The ramp moves toward the target by at most the rate and does not pass it. -/
theorem rampToward_eq (rate commanded target : Nat) :
    (commanded ≤ target → rampToward rate commanded target = min (commanded + rate) target)
      ∧ (target ≤ commanded → rampToward rate commanded target = max (commanded - rate) target) := by
  unfold rampToward
  constructor
  · intro h; split
    · rfl
    · split <;> omega
  · intro h; split
    · omega
    · split
      · rfl
      · omega

/-- Evaluating a depth condition anew changes the roll's condition, and where that changes, the box's immersion flag and
the cause set of its open segment; nothing else. -/
theorem State.settleDepth_eq (s : State) (x : Box) (d : DepthCondition)
    (hd : d = depthOf (s.roll x).state (s.roll x).position (s.dip x)) :
    s.settleDepth x =
      ((s.setRoll x { s.roll x with depth := d }).setSoak x { s.soak x with
          immersed := (if d = (s.roll x).depth then (s.soak x).immersed else d != .out) }).setSegment x
        { s.segment x with causes := (s.segment x).causes |||
          (if d ≠ (s.roll x).depth ∧ s.inUse x = true then depthCause d else 0) } := by
  unfold State.settleDepth
  dsimp only
  rw [← hd]
  by_cases h : d = (s.roll x).depth
  · subst h
    cases x <;>
      simp [State.setRoll, State.setSoak, State.setSegment, State.roll, State.soak, State.segment, PerBox.set,
        PerBox.get]
  · simp only [h, if_false, not_false_eq_true, true_and, ne_eq]
    rw [State.addCausesInUse_eq]
    cases x <;> rfl

/-- A completion changes its box's slot and adds its flag to the originating port. -/
theorem State.complete_eq (s : State) (x : Box) (c : Completion) :
    s.complete x c = { s with
      boxes := { s.boxes with rolls := s.boxes.rolls.set x { s.roll x with slot := some c } }
      ports := s.ports.set c.port { s.port c.port with
        events := (s.port c.port).events ||| (doneFlag x).set } } := rfl

/-- Entering a roll state changes the state and the step phase of that roll alone. -/
theorem State.enterRoll_eq (s : State) (x : Box) (st : RollState) :
    s.enterRoll x st = s.setRoll x { s.roll x with state := st, stepPhase := 0 } := rfl

/-- Between two curve points the interpolation is the nearest kPa to the line, an exact half going up. -/
theorem interpolate_bounds (p q : CurvePoint) (speed : Nat) (h1 : p.speed < speed) (h2 : speed < q.speed) :
    let d : Int := (q.speed : Int) - p.speed
    let exact : Int := p.pressure * d + ((q.pressure : Int) - p.pressure) * ((speed : Int) - p.speed)
    2 * exact - d < 2 * (interpolate p q speed : Int) * d ∧ 2 * (interpolate p q speed : Int) * d ≤ 2 * exact + d := by
  have hd : 0 < q.speed - p.speed := by omega
  have ed : (q.speed : Int) - p.speed = ((q.speed - p.speed : Nat) : Int) := by omega
  have es : (speed : Int) - p.speed = ((speed - p.speed : Nat) : Int) := by omega
  have hle : speed - p.speed ≤ q.speed - p.speed := by omega
  simp only [ed, es, interpolate]
  generalize q.speed - p.speed = d at *
  generalize speed - p.speed = e at *
  split
  · next hp =>
    have ep : (q.pressure : Int) - p.pressure = ((q.pressure - p.pressure : Nat) : Int) := by omega
    rw [ep]
    have hb := roundHalfUp_bounds ((q.pressure - p.pressure) * e) hd
    generalize q.pressure - p.pressure = k at *
    generalize roundHalfUp (k * e) d = r at *
    push_cast
    have hb1 : (2 * r * d : Int) ≤ 2 * (k * e) + d := by exact_mod_cast hb.1
    have hb2 : (2 * (k * e) : Int) < 2 * r * d + d := by exact_mod_cast hb.2
    constructor <;> nlinarith
  · next hp =>
    have ep : (q.pressure : Int) - p.pressure = -((p.pressure - q.pressure : Nat) : Int) := by omega
    rw [ep]
    have hb := roundHalfDown_bounds ((p.pressure - q.pressure) * e) hd
    have hk : p.pressure - q.pressure ≤ p.pressure := by omega
    have hr : roundHalfDown ((p.pressure - q.pressure) * e) d ≤ p.pressure - q.pressure := by
      by_contra hc
      have h3 : (p.pressure - q.pressure) * e ≤ (p.pressure - q.pressure) * d := Nat.mul_le_mul_left _ hle
      have h4 : (p.pressure - q.pressure + 1) * d ≤ roundHalfDown ((p.pressure - q.pressure) * e) d * d :=
        Nat.mul_le_mul_right d (by omega)
      have e1 : 2 * roundHalfDown ((p.pressure - q.pressure) * e) d * d
          = 2 * (roundHalfDown ((p.pressure - q.pressure) * e) d * d) := by ring
      have e2 : (p.pressure - q.pressure + 1) * d = (p.pressure - q.pressure) * d + d := by ring
      omega
    have ev : ((p.pressure - roundHalfDown ((p.pressure - q.pressure) * e) d : Nat) : Int)
        = (p.pressure : Int) - roundHalfDown ((p.pressure - q.pressure) * e) d := by omega
    rw [ev]
    generalize p.pressure - q.pressure = k at *
    generalize roundHalfDown (k * e) d = r at *
    have hb1 : (2 * r * d : Int) < 2 * (k * e) + d := by exact_mod_cast hb.1
    have hb2 : (2 * (k * e) : Int) ≤ 2 * r * d + d := by exact_mod_cast hb.2
    constructor <;> nlinarith

/-! ### Condition Monitor -/

/-- One soak channel at an expiry of the interval timer: only that channel changes, and SOAK is posted on a crossing. -/
theorem State.advanceSoak_cases (s : State) (x : Box) :
    ((s.inUse x = false ∨ (s.soak x).immersed = false ∨ (s.soak x).crossed = true) ∧ s.advanceSoak x = s)
    ∨ (s.inUse x = true ∧ (s.soak x).immersed = true ∧ (s.soak x).crossed = false
        ∧ (s.soak x).timer + 1 < 10 * s.style.boxes.soakLimit
        ∧ s.advanceSoak x = s.setSoak x { s.soak x with timer := (s.soak x).timer + 1 })
    ∨ (s.inUse x = true ∧ (s.soak x).immersed = true ∧ (s.soak x).crossed = false
        ∧ 10 * s.style.boxes.soakLimit ≤ (s.soak x).timer + 1
        ∧ s.advanceSoak x = (s.setSoak x { s.soak x with
            timer := (s.soak x).timer + 1, crossed := true
            pending := max (s.soak x).pending (immersionCount (s.geometry.immersion.get x)) }).post .soak) := by
  unfold State.advanceSoak
  cases hu : s.inUse x <;> cases hi : (s.soak x).immersed <;> cases hc : (s.soak x).crossed <;> simp [hi, hc]
  rcases Nat.lt_or_ge ((s.soak x).timer + 1) (10 * s.style.boxes.soakLimit) with h | h
  · exact .inl ⟨h, fun h' => absurd h (by omega)⟩
  · exact .inr ⟨h, fun h' => absurd h (by omega)⟩

/-- One zone channel at an expiry of the interval timer: that channel, on a crossing the zone's records and OVERDRY. -/
theorem State.advanceZone_cases (s : State) (z : Zone) :
    (((s.zoneRange z).isSome && (s.monitor.zones.get z).heated) = false ∧ s.advanceZone z = s)
    ∨ (((s.zoneRange z).isSome && (s.monitor.zones.get z).heated) = true
        ∧ ¬(s.style.drying.dwellLimit ≤ min ((s.monitor.zones.get z).accumulator + 1) Config.maxWord
            ∧ (s.monitor.zones.get z).crossed = false)
        ∧ s.advanceZone z = s.setZone z { s.monitor.zones.get z with
            accumulator := min ((s.monitor.zones.get z).accumulator + 1) Config.maxWord })
    ∨ (((s.zoneRange z).isSome && (s.monitor.zones.get z).heated) = true
        ∧ s.style.drying.dwellLimit ≤ min ((s.monitor.zones.get z).accumulator + 1) Config.maxWord
        ∧ (s.monitor.zones.get z).crossed = false
        ∧ s.advanceZone z = ((s.setZone z { s.monitor.zones.get z with
            accumulator := min ((s.monitor.zones.get z).accumulator + 1) Config.maxWord
            crossed := true }).addToZone z Cause.overdry.set 0).post .overdry) := by
  unfold State.advanceZone
  dsimp only
  cases h : ((s.zoneRange z).isSome && (s.monitor.zones.get z).heated)
  · exact .inl ⟨rfl, by simp⟩
  · right
    simp only [if_true, true_and]
    split
    · next hx => exact .inr ⟨hx.1, hx.2, rfl⟩
    · next hx => exact .inl ⟨hx, rfl⟩

/-! ### Settings Store -/

/-- A bank is good exactly when its check word is written and matches its content (R152). -/
theorem Bank.good_iff (b : Bank) : b.good = true ↔ b.check = some (Config.bankCheckWord b.content) := by
  simp [Bank.good]

/-- A content under its own check word is a good bank. -/
@[simp] theorem BankCopy.good_sealed (c : BankCopy) : c.sealed.good = true := by simp [BankCopy.sealed, Bank.good]

/-- A bank without its check word is not good. -/
@[simp] theorem BankCopy.good_unsealed (c : BankCopy) : c.unsealed.good = false := rfl

@[simp] theorem BankCopy.content_sealed (c : BankCopy) : c.sealed.content = c := rfl
@[simp] theorem BankCopy.content_unsealed (c : BankCopy) : c.unsealed.content = c := rfl

/-- No bank is the last good one exactly when neither is good (R152). -/
theorem NvStore.lastGood_eq_none (n : NvStore) : n.lastGood = none ↔ n.bank1.good = false ∧ n.bank2.good = false := by
  cases h1 : n.bank1.good <;> cases h2 : n.bank2.good <;> simp [NvStore.lastGood, h1, h2]
  split <;> simp

/-- What the last good bank is: good, its content the one given, and of two good banks the one a count above (R152). -/
theorem NvStore.lastGood_eq_some {n : NvStore} {id : BankId} {c : BankCopy} (h : n.lastGood = some (id, c)) :
    ∃ b, (id = .bank1 ∧ b = n.bank1 ∨ id = .bank2 ∧ b = n.bank2) ∧ b.good = true ∧ b.content = c
      ∧ (n.bank1.good = true → n.bank2.good = true →
          b = if n.bank2.content.generation = n.bank1.content.generation + 1 then n.bank2 else n.bank1) := by
  cases h1 : n.bank1.good <;> cases h2 : n.bank2.good <;> simp only [NvStore.lastGood, h1, h2] at h
  · cases h
  · cases h; exact ⟨n.bank2, .inr ⟨rfl, rfl⟩, h2, rfl, nofun⟩
  · cases h; exact ⟨n.bank1, .inl ⟨rfl, rfl⟩, h1, rfl, fun _ => nofun⟩
  · split at h <;> rename_i hg <;> cases h
    · exact ⟨n.bank2, .inr ⟨rfl, rfl⟩, h2, rfl, fun _ _ => (if_pos hg).symm⟩
    · exact ⟨n.bank1, .inl ⟨rfl, rfl⟩, h1, rfl, fun _ _ => (if_neg hg).symm⟩

/-- What stopping a store does: nothing without one in flight; else the bank being written is not good and the other is
kept (R153). -/
theorem NvStore.stopStore_spec (n : NvStore) (draw : Nat) :
    (n.stopStore draw).flight = none ∧ (n.flight = none → n.stopStore draw = n)
      ∧ (∀ f, n.flight = some f → f.bank = .bank1 →
          (n.stopStore draw).bank1.good = false ∧ (n.stopStore draw).bank2 = n.bank2)
      ∧ (∀ f, n.flight = some f → f.bank = .bank2 →
          (n.stopStore draw).bank2.good = false ∧ (n.stopStore draw).bank1 = n.bank1) := by
  unfold NvStore.stopStore
  split
  · next h => exact ⟨h, fun _ => rfl, by simp [h], by simp [h]⟩
  · next f h =>
    refine ⟨rfl, by simp [h], ?_, ?_⟩ <;> intro g hg hb <;> cases h.symm.trans hg <;> simp [NvStore.setBank, hb]

theorem State.addToZone_startKind (s : State) (z : Zone) (c : CauseSet) (d : Nat) :
    (s.addToZone z c d).startKind = s.startKind := by
  cases z <;> simp only [State.addToZone] <;> split <;> rfl

theorem State.addCausesInUse_startKind (s : State) (x : Box) (c : CauseSet) :
    (s.addCausesInUse x c).startKind = s.startKind := by
  unfold State.addCausesInUse State.addCauses; split <;> (try split) <;> rfl

theorem State.openSegment_startKind (s : State) (x : Box) (c : CauseSet) :
    (s.openSegment x c).startKind = s.startKind := by
  unfold State.openSegment; split
  · exact State.addCausesInUse_startKind _ _ _
  · rfl

theorem State.warmSoak_startKind (s : State) (x : Box) : (s.warmSoak x).startKind = s.startKind := by
  unfold State.warmSoak; split <;> rfl

/-- The start kind a start takes is the one R154 decides. -/
theorem cardStart_startKind (retain : Bool) (s : State) : (cardStart retain s).startKind = s.startKindFor retain := by
  have warm : ∀ t : State, t.startWarm.startKind = t.startKind := by
    intro t
    unfold State.startWarm
    simp only [Zone.all, List.foldl]
    split <;>
      simp [State.addCausesInUse_startKind, State.warmSoak_startKind, State.addToZone_startKind]
  have cold : ∀ t : State, t.startCold.startKind = t.startKind := by
    intro t; simp [State.startCold, State.pathClear, State.emptyWindows, State.openSegment_startKind]
  unfold cardStart
  cases s.startKindFor retain <;> simp only [warm, cold] <;> rfl
/-! ### Searches -/

/-- A search ends on the first slot whose record matches, or counts the slots examined and those passed over. -/
theorem search_spec (q : Query) (slots : List (Option Found)) : ∀ pos ex pa : Nat,
    (∃ (i : Nat) (r : Found), slots[i]? = some (some r) ∧ q.test r = some true
        ∧ (∀ j : Nat, j < i → (slots[j]?.bind fun slot => slot.bind q.test) ≠ some true)
        ∧ search q slots pos ex pa = .hit (pos + i) r.sequence)
    ∨ ((∀ i : Nat, (slots[i]?.bind fun slot => slot.bind q.test) ≠ some true)
        ∧ search q slots pos ex pa = .notFound (ex + slots.length)
            (pa + (slots.filter fun slot => (slot.bind q.test).isNone).length)) := by
  induction slots with
  | nil => intro pos ex pa; right; simp [search]
  | cons slot rest ih =>
    intro pos ex pa
    have key : ∀ (pa' : Nat), (slot.bind q.test) ≠ some true →
        search q (slot :: rest) pos ex pa = search q rest (pos + 1) (ex + 1) pa' →
        pa' = pa + (if (slot.bind q.test).isNone then 1 else 0) →
        (∃ (i : Nat) (r : Found), (slot :: rest)[i]? = some (some r) ∧ q.test r = some true
            ∧ (∀ j : Nat, j < i → ((slot :: rest)[j]?.bind fun slot => slot.bind q.test) ≠ some true)
            ∧ search q (slot :: rest) pos ex pa = .hit (pos + i) r.sequence)
        ∨ ((∀ i : Nat, ((slot :: rest)[i]?.bind fun slot => slot.bind q.test) ≠ some true)
            ∧ search q (slot :: rest) pos ex pa = .notFound (ex + (slot :: rest).length)
                (pa + ((slot :: rest).filter fun slot => (slot.bind q.test).isNone).length)) := by
      intro pa' hne hs hpa
      rcases ih (pos + 1) (ex + 1) pa' with ⟨i, r, h1, h2, h3, h4⟩ | ⟨h1, h2⟩
      · left
        refine ⟨i + 1, r, by simpa using h1, h2, ?_, ?_⟩
        · intro j hj
          cases j with
          | zero => simpa using hne
          | succ j => simpa using h3 j (by omega)
        · rw [hs, h4]; congr 1; omega
      · right
        refine ⟨?_, ?_⟩
        · intro i
          cases i with
          | zero => simpa using hne
          | succ j => simpa using h1 j
        · rw [hs, h2, hpa]
          simp only [List.length_cons, List.filter_cons]
          split <;> simp <;> omega
    cases slot with
    | none => exact key (pa + 1) (by simp) (by simp [search]) (by simp)
    | some r =>
      cases ht : q.test r with
      | none => exact key (pa + 1) (by simp [ht]) (by simp [search, ht]) (by simp [ht])
      | some b =>
        cases b with
        | true => left; exact ⟨0, r, by simp, ht, by simp, by simp [search, ht]⟩
        | false => exact key pa (by simp [ht]) (by simp [search, ht]) (by simp [ht])

/-! ### Fault ranges -/

theorem placeSpan_nil (start finish gap : Nat) (causes : CauseSet) :
    placeSpan [] start finish gap causes = ([⟨start, finish, causes, false⟩], true) := rfl

/-- Placing a span beside a last range: it is extended within the gap, else a range is appended while fewer than 48 are
held, else the last range absorbs it. -/
theorem placeSpan_append (front : List FaultRange) (last : FaultRange) (start finish gap : Nat) (causes : CauseSet) :
    placeSpan (front ++ [last]) start finish gap causes =
      if start ≤ last.finish + gap then
        (front ++ [{ last with finish := finish, causes := last.causes ||| causes }], false)
      else if front.length + 1 < Config.maxRanges then
        (front ++ [last] ++ [⟨start, finish, causes, false⟩], true)
      else (front ++ [{ last with finish := finish, causes := last.causes ||| causes, absorbed := true }], false) := by
  simp [placeSpan, FaultRange.reaches]

end Sys2Proof.Machine
end

