-- ==== Sys2Proof/Tests/Slice0.lean ====
section
/-! SUPPORT. Tests of one step each, with expected results taken from the manual's worked figures and tables, the smoke
tests of WellFormed, and for every statement with hypotheses a witness that meets them. -/

namespace Sys2Proof.Tests
open Sys2Proof.Machine

-- The theorems are checked one after another: checked side by side they would fill the memory with threads.
set_option Elab.async false

/-! ### Helpers -/

/-- The card after the start-up hold of an NV_LOST start: factory settings, the four factory roles. -/
def ready : State := { State.reset with hold := none }

/-- Headers of the four factory masters: LINE on P0, PROCESS on P1, STATION on P2, DATA on P3. -/
def h0 : Hdr := ⟨.p0, 0x21, false, 0⟩
def h1 : Hdr := ⟨.p1, 0x22, false, 0⟩
def h2 : Hdr := ⟨.p2, 0x23, false, 0⟩
def h3 : Hdr := ⟨.p3, 0x24, false, 0⟩

/-- The state after one command. -/
def after (i : Instr) (s : State) : State :=
  match exec i s with
  | .next t => t
  | .fault _ | .refused _ => s

/-- The state after one step. -/
def stepped (s : State) : State :=
  match step s with
  | .next t => t
  | .fault _ | .refused _ => s

/-- The status byte of the reply a port sends. -/
def status (s : State) (p : Port) : Option Byte := (s.port p).reply.bind fun r => r.bytes[3]?

/-- The data bytes of the reply a port sends. -/
def data (s : State) (p : Port) : List Byte :=
  match (s.port p).reply with
  | some r => (r.bytes.drop 5).take (r.bytes.length - 7)
  | none => []

/-- The line running: CRAWL, one capture taken at timebase 0. -/
def crawling : State := { ready with
  line := { ready.line with lineState := .crawl, lastCapture := some 0, standstill := some ⟨0, 300000⟩ }
  monitor := { ready.monitor with interval := none }
  boxes := { ready.boxes with autoLift := none } }

/-- Both rolls referenced in IDLE at a position, the depth conditions as they then stand. -/
def referenced (position : Nat) (s : State) : State :=
  (({ s with boxes := { s.boxes with rolls :=
    ⟨{ s.boxes.rolls.a with state := .idle, position := position },
     { s.boxes.rolls.b with state := .idle, position := position }⟩ } }).settleDepth .a).settleDepth .b

/-- A beam record of a number, target and cut length in mm, and wound length. -/
def beam (number target cut wound : Nat) : BeamRecord :=
  { BeamRecord.fresh number target cut false 0 with wound := wound, cutsDue := (wound + 8000) / cut }

/-- A state with a beam open in OPEN, its compares those of the state's settings. -/
def winding (r : BeamRecord) (s : State) : State := s.setBeam (some ⟨.opened, r, s.compares r.target⟩)

/-- A lane record of a sequence number. -/
def lrec (n : Nat) : LaneRecord := ⟨n, 0, 4000, 600, 60, none, 14500, some 115, some 1045, some 1399, none, 0, 0⟩

/-- A main record of a sequence number and moisture. -/
def mrec (n : Nat) (m : Option Nat) : MainRecord := ⟨n, some (n - 3), some (n - 2), 0, none, m, 0, 0⟩

/-! ### WellFormed: each check refuses an ill-formed term -/

theorem test_wf_curve_of_14_points : (StyleWrite.curve .a (List.replicate 14 ⟨0, 0⟩)).wellFormed = false := by decide
theorem test_wf_curve_of_13_points : (StyleWrite.curve .b (List.replicate 13 ⟨0, 0⟩)).wellFormed = true := by decide
theorem test_wf_style_other_names_listed_group : (StyleWrite.other 7 []).wellFormed = false := by decide
theorem test_wf_style_other_too_long : (StyleWrite.other 8 (List.replicate 57 0)).wellFormed = false := by decide
theorem test_wf_machine_other_names_listed_group : (MachineWrite.other 4 []).wellFormed = false := by decide
theorem test_wf_machine_other_too_long : (MachineWrite.other 5 (List.replicate 57 0)).wellFormed = false := by decide
theorem test_wf_unknown_that_decodes : (Instr.unknownCommandCode h0 0x01 0 []).wellFormed = false := by decide
theorem test_wf_unknown_too_long :
    (Instr.unknownCommandCode h0 0x7F 0 (List.replicate 58 0)).wellFormed = false := by decide
theorem test_wf_unknown_listed_code_wrong_length :
    (Instr.unknownCommandCode h0 0x01 0 [0]).wellFormed = true := by decide

/-! ### Frames written out from Figures 10-1, 10-3 and 10-8 -/

/-- MOVE ROLL (0x14) of tag 0x21 on P0, no flags: box A (0), RELATIVE (1), −2 (0xFFFE). -/
theorem test_decode_moveRoll :
    decodeFrame .p0 [0xB4, 11, 0x21, 0x14, 0x00, 0x00, 0x01, 0xFF, 0xFE, 0, 0]
      = .moveRoll h0 0 1 0xFFFE := by decide

/-- FIND (0x03) with HOLD (bit 7) and guard IF_STOPPED (1): MAIN (2), start 0x0102, MOISTURE (4), GE (2), 110. -/
theorem test_decode_find :
    decodeFrame .p3 [0xB4, 16, 0x24, 0x03, 0x81, 0x02, 0x01, 0x02, 0x04, 0x02, 0, 0, 0, 110, 0, 0]
      = .find ⟨.p3, 0x24, true, 1⟩ 2 0x0102 4 2 110 := by decide

/-- WRITE STYLE (0x30) group 3, curve B, two points. -/
theorem test_decode_writeStyle :
    decodeFrame .p2 [0xB4, 17, 0x23, 0x30, 0, 3, 2, 0x00, 0xC8, 0x01, 0x36, 0x02, 0x58, 0x01, 0x31, 0, 0]
      = .writeStyle h2 (.curve .b [⟨200, 310⟩, ⟨600, 305⟩]) := by decide

/-- REPORT BOX (0x20): box B, 11.5 %, 1,045 g/L. -/
theorem test_decode_reportBox :
    decodeFrame .p1 [0xB4, 12, 0x22, 0x20, 0, 1, 0x00, 0x73, 0x04, 0x15, 0, 0] = .reportBox h1 1 115 1045 := by decide

/-- A reserved flag bit, and a parameter too many: R157 refuses INVALID. -/
theorem test_decode_reserved_flag :
    decodeFrame .p0 [0xB4, 7, 0x21, 0x01, 0x08, 0, 0] = .unknownCommandCode h0 0x01 1 [] := by decide
theorem test_decode_extra_parameter :
    decodeFrame .p0 [0xB4, 8, 0x21, 0x01, 0x00, 9, 0, 0] = .unknownCommandCode h0 0x01 0 [9] := by decide

/-- The check value of the algorithm of R156 over the ASCII digits 1 to 9 is the standard's published 0x29B1. -/
theorem test_check_word :
    checkWord [0x31, 0x32, 0x33, 0x34, 0x35, 0x36, 0x37, 0x38, 0x39] = 0x29B1 := by decide +kernel

/-- The table gives no row any bits. -/
theorem test_no_table_word : decodeTableWord 16 0 = none := by decide

/-! ### Length, speed and line state (Figures 1-2 and 1-3) -/

/-- The state of Figure 1-2 before a pulse: weight 2,000 µm, threshold 300, hysteresis 10, the sheet as given. -/
def figure12 (track distance timebase : Nat) (periods : List Nat) (last : Nat) (lineState : LineState) : State :=
  { crawling with
    settings := { crawling.settings with machine := { crawling.settings.machine with
      measurement := { crawling.settings.machine.measurement with trackWeight := 2000 } } }
    line := { crawling.line with
      track := BitVec.ofNat 32 track, distance := distance, timebase := BitVec.ofNat 32 timebase
      periods := periods, lastCapture := some (BitVec.ofNat 32 last), lineState := lineState } }

/-- What a figure of chapter 1 shows of a state. -/
def lengthRow (s : State) : Nat × LineState × Nat × Nat := (s.line.speed, s.line.lineState, s.line.track.toNat, s.line.distance)

/-- Figure 1-2, pulse 1, from STOPPED. -/
theorem test_trackPulse_starts :
    lengthRow (after .trackPulse { ready with
      settings := (figure12 0 0 0 [] 0 .crawl).settings
      line := { ready.line with track := 41388, distance := 190 } }) = (0, .crawl, 41390, 192) := by decide +kernel

/-- Figure 1-2, pulse 5: 4,800,000 ÷ 17,500 rounds to 274, and the boundary distance returns to 0. -/
theorem test_trackPulse_fifth :
    lengthRow (after .trackPulse (figure12 41396 198 17500 [8000, 4000, 3000] 15000 .crawl))
      = (274, .crawl, 41398, 0) := by decide +kernel

/-- Figure 1-2, pulse 6: 308 reaches the threshold. -/
theorem test_trackPulse_sixth :
    lengthRow (after .trackPulse (figure12 41398 0 19500 [8000, 4000, 3000, 2500] 17500 .crawl))
      = (308, .run, 41400, 2) := by decide +kernel

/-- Figure 1-3: four periods of 4,000 and four of 8,000 give 200, below 300 − 10. -/
theorem test_trackPulse_falls_to_crawl :
    lengthRow (after .trackPulse (figure12 50000 0 8000 [4000, 4000, 4000, 4000, 4000, 8000, 8000, 8000] 0 .run))
      = (200, .crawl, 50002, 2) := by decide +kernel

/-- R1: a residue of 999 µm and a pulse of 1,000 µm count one millimetre and keep 999 µm. -/
theorem test_feedPulse_residue :
    let t := after .feedPulse { ready with line := { ready.line with feedResidue := 999 } }
    (t.line.feed, t.line.feedResidue) = (1, 999) := by decide +kernel

/-- Figure 1-3: 300 ms without a pulse. -/
theorem test_standstillTimeout :
    lengthRow (after .standstillTimeout (figure12 60000 4 0 [4000, 8000] 0 .crawl)) = (0, .stopped, 60000, 4) := by
  decide +kernel

/-- The stretch example of section 1.6: T = 3,200, F = 3,152 gives +1.52 %. -/
theorem test_stretch : stretchFigure 3200 3152 = 152 := by decide

/-! ### The sheet path (Figures 2-5 and 2-6) -/

/-- The settings of Figure 2-5, with the main lane of 4 slots the figure is drawn with: depths 3, 2 and 4, gauge 2,
marker 3, both boxes in use. -/
def figure25 : State := { crawling with
  settings := { crawling.settings with
    machine := { crawling.settings.machine with geometry := { crawling.settings.machine.geometry with
      depthA := 3, depthB := 2, depthMain := 4, gauge := 2, marker := 3
      zones := ⟨none, none, none, none, none, none⟩ } }
    styles := crawling.settings.styles.set 0 { factoryStyle with
      yarn := { factoryStyle.yarn with ends := ⟨4000, 3800⟩ } } } }

/-- Figure 2-5 after boundary 2. -/
def figure25after2 : State := { figure25 with path := { figure25.path with
  lanes := ⟨[some (lrec 2), some (lrec 1), none], [some (lrec 2), some (lrec 1)]⟩
  main := [none, none, none, none]
  sequence := 2 } }

/-- Figure 2-5, boundary 3: A3 A2 A1, B3 B2, M3 at the main tail with its B part alone. -/
theorem test_boundary_three :
    let t := figure25after2.boundary
    laneNumbers (t.lane .a) = [some 3, some 2, some 1] ∧ laneNumbers (t.lane .b) = [some 3, some 2]
      ∧ mainNumbers t.path.main = [some 3, none, none, none]
      ∧ (slotAt t.path.main 0).map (fun m => (m.seqA, m.seqB)) = some (none, some 1) := by decide +kernel

/-- Figure 2-6: the path after boundary 7, M5 stamped 98 and M4 stamped 112. -/
def figure26 : State := { figure25 with path := { figure25.path with
  lanes := ⟨[some (lrec 7), some (lrec 6), some (lrec 5)], [some (lrec 7), some (lrec 6)]⟩
  main := [some (mrec 7 none), some (mrec 6 none), some (mrec 5 (some 98)), some (mrec 4 (some 112))]
  sequence := 7 } }

/-- Figure 2-6, first search: a hit at position 3, sequence 4. -/
theorem test_find_hit : data (after (.find h0 2 0 4 2 110) figure26) .p0 = [0, 0, 3, 0, 0, 0, 4] := by decide +kernel

/-- Figure 2-6, second search: not found, 4 examined, 2 passed over. -/
theorem test_find_not_found : data (after (.find h0 2 0 4 2 120) figure26) .p0 = [1, 0, 4, 0, 2] := by decide +kernel

/-- Figure 2-6, fourth and fifth searches: RANGE. -/
theorem test_find_range :
    status (after (.find h0 2 0 0 2 0) figure26) .p0 = some 6
      ∧ status (after (.find h0 1 2 5 0 0) figure26) .p0 = some 6 := by decide +kernel

/-- A lane record is 30 bytes, an untracked position NONE, a position at the depth RANGE (R40, Figure 10-6). -/
theorem test_readSegment :
    (data (after (.readSegment h0 0 2) figure26) .p0).length = 30
      ∧ status (after (.readSegment h0 0 2) figure25after2) .p0 = some 4
      ∧ status (after (.readSegment h0 0 3) figure26) .p0 = some 6 := by decide +kernel

/-- R35: CLEAR PATH leaves no record and the sequence counter 0; refused while the line moves. -/
theorem test_clearPath :
    (after (.clearPath h0) { figure26 with line := ready.line }).pathEmpty = true
      ∧ (after (.clearPath h0) { figure26 with line := ready.line }).path.sequence = 0
      ∧ status (after (.clearPath h0) figure26) .p0 = some 8 := by decide +kernel

/-! ### Size add-on (Figures 3-2 and 3-3) -/

/-- The worked case of chapter 3: 4,000 ends of 1,476, window of 4, pulse weight 500 µL, 115 and 1,045 reported. -/
def nipA (window : List Nat) (pulses concentration : Nat) : State :=
  ({ ready with
    settings := { ready.settings with
      machine := { ready.settings.machine with measurement := { ready.settings.machine.measurement with
        liquorWeight := ⟨500, 500⟩ } }
      styles := ready.settings.styles.set 0 { factoryStyle with yarn := ⟨⟨4000, 3800⟩, 1476, 4⟩ } }
    addOn := ⟨⟨window, []⟩, ⟨⟨some concentration, some 1045, .fresh, some 0⟩, ⟨none, none, .unknown, none⟩⟩⟩ }).setSegment .a
      ⟨pulses, 0⟩

/-- What Figure 3-2 shows of a close. -/
def closeRow (s : State) : Nat × Option Nat × Bool :=
  let c := s.closeSegment .a none
  (c.record.liquor, c.record.addOn, shares c.record.causes Cause.windowShort.set)

theorem test_close_1 : closeRow (nipA [] 27 115) = (13500, none, true) := by decide +kernel
theorem test_close_3 : closeRow (nipA [13500, 14000] 26 115) = (13000, some 1374, false) := by decide +kernel
theorem test_close_5 : closeRow (nipA [13500, 14000, 13000, 14500] 30 115) = (15000, some 1438, false) := by
  decide +kernel
theorem test_close_6 : closeRow (nipA [14000, 13000, 14500, 15000] 28 120) = (14000, some 1500, false) := by
  decide +kernel

/-- Figure 3-3: the two layers merge at 1,332; an untracked part makes it absent; a part without ends does not weigh. -/
theorem test_combined :
    combinedAddOn true (some { lrec 1 with ends := 4000, addOn := some 1399 })
        (some { lrec 1 with ends := 3800, addOn := some 1262 }) = some 1332
      ∧ combinedAddOn true (some { lrec 1 with addOn := some 1399 }) none = none
      ∧ combinedAddOn true (some { lrec 1 with addOn := some 1399 }) (some { lrec 1 with ends := 0, addOn := none })
        = some 1399 := by decide

/-- R44: a pulse counts once, and a count of 65,535 stays. -/
theorem test_liquorPulse :
    ((after (.liquorPulse .a) (nipA [] 28 115)).segment .a).pulses = 29
      ∧ ((after (.liquorPulse .a) (nipA [] 65535 115)).segment .a).pulses = 65535 := by decide +kernel

/-- R47: FRESH passes to STALE, INPUT_FAULT (bit 11) at every port. -/
theorem test_ageTimerExpiry :
    let t := after (.ageTimerExpiry .a) (nipA [] 0 115)
    (t.report .a).state = .stale ∧ (t.port .p3).events.getLsbD 11 = true := by decide +kernel

/-- R46: step 6 of Figure 3-2, and a concentration of 310 with a density of 1,500 clamped. -/
theorem test_reportBox :
    status (after (.reportBox h1 0 120 1045) (nipA [] 0 115)) .p1 = some 0
      ∧ status (after (.reportBox h1 0 310 1500) ready) .p1 = some 1
      ∧ data (after (.reportBox h1 0 310 1500) ready) .p1 = [0x01, 0x2C, 0x05, 0x78] := by decide +kernel

/-! ### Condition Monitor (Figures 4-2 and 4-4) -/

/-- The machine of Figure 4-2 near a crossing: both boxes in use, soak limit 30 s, dwell limit 600, immersion length B
700 mm. -/
def figure42 (soak dwell : Nat) : State := { ready with
  settings := { ready.settings with
    machine := { ready.settings.machine with geometry := { ready.settings.machine.geometry with
      immersion := ⟨900, 700⟩ } }
    styles := ready.settings.styles.set 0 { factoryStyle with
      yarn := { factoryStyle.yarn with ends := ⟨4000, 3800⟩ }
      boxes := { factoryStyle.boxes with soakLimit := 30 } } }
  monitor := { ready.monitor with
    soak := ⟨⟨200, false, 0, false⟩, ⟨soak, false, 0, true⟩⟩
    zones := ⟨⟨true, dwell, false⟩, ⟨true, dwell, false⟩, ⟨true, dwell, false⟩, ⟨true, dwell, false⟩, ⟨false, 300, false⟩,
      ⟨true, 0, false⟩⟩ } }

/-- Figure 4-2 at 30.0 s: soak B crosses at 300 and arms 4; soak A, lifted, stays at 200. -/
theorem test_interval_soak :
    let t := after .intervalTimerExpiry (figure42 299 299)
    t.soak .b = ⟨300, true, 4, true⟩ ∧ t.soak .a = ⟨200, false, 0, false⟩ ∧ (t.port .p0).events.getLsbD 10 = true := by
  decide +kernel

/-- Figure 4-2 at 60.0 s: a heated zone crosses at 600, the unheated zone stays at 300. -/
theorem test_interval_dwell :
    let t := after .intervalTimerExpiry (figure42 0 599)
    t.monitor.zones.get .main1 = ⟨true, 600, true⟩ ∧ t.monitor.zones.get .main3 = ⟨false, 300, false⟩
      ∧ (t.port .p0).events.getLsbD 9 = true := by decide +kernel

/-- Figure 4-2 at 30.05 s: ZONE HEAT MAIN_3 UNHEATED returns zone, setting and accumulator. -/
theorem test_zoneHeat :
    let t := after (.zoneHeat h1 4 1) { figure42 0 300 with monitor := { (figure42 0 300).monitor with
      zones := (figure42 0 300).monitor.zones.set .main3 ⟨true, 300, false⟩ } }
    data t .p1 = [4, 1, 0x01, 0x2C] ∧ t.monitor.zones.get .main3 = ⟨false, 300, false⟩ := by decide +kernel

/-- Figure 4-4: the regain of each sample at span 200. -/
theorem test_regain :
    [1210, 1390, 380, 2080, 2090, 350].map (regainOf 200) = [some 101, some 124, some 0, some 200, none, none] := by
  decide

/-- R79: a fault sample makes the gauge FAULT with INPUT_FAULT; a valid one makes it VALID. -/
theorem test_gaugeSample :
    (after (.gaugeSample 350) ready).monitor.gauge = .fault
      ∧ ((after (.gaugeSample 350) ready).port .p1).events.getLsbD 11 = true
      ∧ (after (.gaugeSample 1390) ready).monitor.regain = some 124 := by decide +kernel

/-! ### Box Control Unit (Figures 5-2 to 5-5) -/

theorem test_rising_curve :
    [0, 100, 437, 800, 1200].map (curvePressure [⟨100, 120⟩, ⟨600, 250⟩, ⟨1000, 310⟩]) = [120, 120, 208, 280, 310] := by
  decide
theorem test_falling_curve :
    [240, 300, 370, 440].map (curvePressure [⟨200, 310⟩, ⟨600, 305⟩]) = [310, 309, 308, 307] := by decide
theorem test_rising_half : curvePressure [⟨200, 305⟩, ⟨600, 310⟩] 240 = 306 := by decide

/-- Figure 5-4, expiries 1 and 3: the standstill pressure is 60, the rate 20. -/
theorem test_rampTimerExpiry :
    let s := { ready with settings := { ready.settings with styles := ready.settings.styles.set 0 { factoryStyle with
      boxes := { factoryStyle.boxes with standstill := ⟨60, 60⟩ } } } }
    let t := { s with boxes := { s.boxes with pressure := ⟨⟨60, 40⟩, ⟨0, 0⟩⟩ } }
    (after .rampTimerExpiry s).boxes.pressure.a = ⟨60, 20⟩ ∧ (after .rampTimerExpiry t).boxes.pressure.a = ⟨60, 60⟩ := by
  decide +kernel

/-- Figure 5-5 at 19.51 s: MOVE ROLL A ABSOLUTE 2,500 is CLAMPED to 2,000. -/
theorem test_moveRoll_clamped :
    let t := after (.moveRoll h2 0 0 2500) (referenced 1500 ready)
    status t .p2 = some 1 ∧ data t .p2 = [0x07, 0xD0] ∧ (t.roll .a).state = .moving 2000 ⟨.p2, 1500⟩ := by decide +kernel

/-- R91: a relative move of −2 from 1 ends at 0, CLAMPED; an unreferenced roll is refused UNREFERENCED. -/
theorem test_moveRoll_relative :
    ((after (.moveRoll h2 0 1 0xFFFE) (referenced 1 ready)).roll .a).state = .moving 0 ⟨.p2, 1⟩
      ∧ status (after (.moveRoll h2 0 0 5) ready) .p2 = some 0x0B := by decide +kernel

/-- Figure 5-5 at 20.0 s: the auto-lift preempts the move, 1,500 to 1,622, and calls P2 alone. -/
theorem test_autoLiftExpiry :
    let s := (referenced 1500 ready).setRoll .a ⟨.moving 2000 ⟨.p2, 1500⟩, 1622, .atDepth, none, 0⟩
    let t := after .autoLiftExpiry s
    (t.roll .a).state = .autoLift ∧ (t.roll .a).slot = some ⟨.move, .preempted, 1500, some 1622, .p2⟩
      ∧ (t.port .p2).events.getLsbD 6 = true ∧ (t.port .p0).events.getLsbD 6 = false := by decide +kernel

/-- Figure 5-5 at 20.044 s, dip depth B 1,100 (below depth from 1,089): the step to 1,089 takes roll B OUT. -/
theorem test_rollStep_out :
    let s := { ready with settings := { ready.settings with styles := ready.settings.styles.set 0 { factoryStyle with
      boxes := { factoryStyle.boxes with dip := ⟨1200, 1100⟩ } } } }
    ((after (.rollStep .b) (s.setRoll .b ⟨.autoLift, 1091, .atDepth, none, 0⟩)).roll .b).depth = .atDepth
      ∧ ((after (.rollStep .b) (s.setRoll .b ⟨.autoLift, 1090, .atDepth, none, 0⟩)).roll .b).depth = .out := by
  decide +kernel

/-- R94: the 2,200th step of a home on a travel of 2,000 fails it, with ROLL_UNREF (bit 8) at every port. -/
theorem test_rollStep_home_fails :
    let t := after (.rollStep .a) (ready.setRoll .a ⟨.homing 2199 ⟨.p0, 7⟩, 7, .unknown, none, 0⟩)
    (t.roll .a).state = .unrefIdle ∧ (t.roll .a).slot = some ⟨.home, .homeFail, 7, none, .p0⟩
      ∧ (t.port .p3).events.getLsbD 8 = true := by decide +kernel

/-- R94: the switch becoming active ends a home at position 0. -/
theorem test_homeSwitchActive :
    let t := after (.homeSwitchActive .a true) (ready.setRoll .a ⟨.homing 40 ⟨.p0, 7⟩, 7, .unknown, none, 0⟩)
    (t.roll .a).state = .idle ∧ (t.roll .a).position = 0 ∧ (t.port .p0).events.getLsbD 6 = true := by decide +kernel

/-- Figure 5-5 at 31.0 and 32.0 s: HOME ROLL with a held slot is PENDING; with the switch active it ends at once. -/
theorem test_homeRoll :
    let held := ready.setRoll .a ⟨.unrefIdle, 0, .unknown, some ⟨.move, .preempted, 1500, some 1622, .p2⟩, 0⟩
    let active := { ready with boxes := { ready.boxes with homeSwitch := ⟨true, false⟩ } }
    let t := after (.homeRoll h0 0) active
    status (after (.homeRoll h0 0) held) .p0 = some 0x0C ∧ status t .p0 = some 2
      ∧ (t.roll .a).slot = some ⟨.home, .done, 0, some 0, .p0⟩ ∧ (t.roll .a).depth = .out := by decide +kernel

/-- Figure 5-5 at 31.5 s: COLLECT returns MOVE, PREEMPTED, 1,500, 1,622, P2 and empties the slot. -/
theorem test_collect :
    let t := after (.collect h2 0)
      (ready.setRoll .a ⟨.unrefIdle, 0, .unknown, some ⟨.move, .preempted, 1500, some 1622, .p2⟩, 0⟩)
    data t .p2 = [0, 1, 0x05, 0xDC, 0x06, 0x56, 2, 0] ∧ (t.roll .a).slot = none := by decide +kernel

/-- Figure 5-5 at 30.0 and 30.2 s: RESET FIELD unreferences both rolls and runs for 500 ms; a second one is BUSY. -/
theorem test_resetField :
    let t := after (.resetField h0) (referenced 0 ready)
    (t.roll .a).state = .unrefIdle ∧ (t.roll .b).depth = .unknown ∧ t.boxes.fieldReset = some 500000
      ∧ status (after (.resetField h0) t) .p0 = some 7 := by decide +kernel

theorem test_fieldResetExpiry :
    (after .fieldResetExpiry { ready with boxes := { ready.boxes with fieldReset := some 0 } }).boxes.fieldReset = none := by
  decide +kernel

/-! ### Beams (Figures 6-2 and 6-3) -/

/-- The machine of Figure 6-3: marker lead 4,150, slow distance 50 m, merge gap 1,000. -/
def figure63 : State := { ready with
  settings := { ready.settings with
    machine := { ready.settings.machine with geometry := { ready.settings.machine.geometry with
      depthMain := 120, gauge := 90, marker := 100, fine := 150 } }
    styles := ready.settings.styles.set 0 { factoryStyle with
      masks := { factoryStyle.masks with beamFault := causeSet [.soak, .overdry, .lift, .powerstop, .untracked] } } } }

/-- Figure 6-2: the spans of the first five deliveries. -/
theorem test_fault_map :
    placeSpan [] 40000 40200 1000 Cause.soak.set = ([⟨40000, 40200, Cause.soak.set, false⟩], true)
      ∧ placeSpan [⟨40000, 40400, Cause.soak.set, false⟩] 41000 41200 1000 Cause.lift.set
        = ([⟨40000, 41200, causeSet [.soak, .lift], false⟩], false)
      ∧ placeSpan [⟨40000, 41200, causeSet [.soak, .lift], false⟩] 42800 43000 1000 Cause.untracked.set
        = ([⟨40000, 41200, causeSet [.soak, .lift], false⟩, ⟨42800, 43000, Cause.untracked.set, false⟩], true) := by
  decide

/-- Figure 6-3, before: the compares of beam 2107 and its marks due. -/
theorem test_compares :
    figure63.compares 3000000 = ⟨2950000, 2995000, 3010000⟩ ∧ figure63.geometry.markerLead = 4150
      ∧ (2699800 + figure63.geometry.markerLead) / 100000 = 27 := by decide +kernel

/-- Figure 6-3, step 3: SET TARGET 2,702 at 2,700,200 is LATE, STOPPING, with compares 2,652,000 and 2,697,000. -/
theorem test_setTarget_late :
    let t := after (.setTarget h2 2702) (winding { beam 2107 3000000 100000 2700200 with cutsDue := 27 } figure63)
    status t .p2 = some 3 ∧ t.beams.current.map (fun o => (o.phase, o.compares))
      = some (.stopping, ⟨2652000, 2697000, 2712000⟩) ∧ t.stopRequest = true := by decide +kernel

/-- Figure 6-3, step 5: DOFF closes 2107, opens 2108, keeps 2109 in the plan and 2104 to 2107 in the store. -/
theorem test_doff :
    let s := winding (beam 2107 2702000 100000 2706450) { figure63 with beams := { figure63.beams with
      plan := [⟨2108, 3000, 1000⟩, ⟨2109, 2500, 800⟩]
      store := [beam 2103 1 100000 1, beam 2104 1 100000 1, beam 2105 1 100000 1, beam 2106 1 100000 1] } }
    let t := after (.doff h0) s
    t.beams.store.map BeamRecord.number = [2104, 2105, 2106, 2107] ∧ t.beams.plan = [⟨2109, 2500, 800⟩]
      ∧ data t .p0 = [0x08, 0x3C, 0x0B, 0xB8, 0x03, 0xE8, 0] ∧ (t.port .p1).events.getLsbD 1 = true := by decide +kernel

/-- Figure 6-3, step 6: a DOFF of a beam with nothing wound is EMPTY_BEAM; with no beam and no plan, PLAN_EMPTY. -/
theorem test_doff_refused :
    status (after (.doff h2) (winding (beam 2108 3000000 100000 0) figure63)) .p2 = some 0x0D
      ∧ status (after (.doff h2) figure63) .p2 = some 0x0E := by decide +kernel

/-- R118: CLOSE SET leaves no beam open; in IDLE it completes NONE. -/
theorem test_closeSet :
    (after (.closeSet h0) (winding (beam 5 3000000 100000 10) figure63)).beams.current = none
      ∧ status (after (.closeSet h0) figure63) .p0 = some 4 := by decide +kernel

/-- R107: the wound length that reaches 28 × 100,000 − 4,150 fires CUT JET for 40 ms. -/
theorem test_cut_mark :
    let t := (winding { beam 2107 3000000 100000 2795849 with cutsDue := 27 } figure63).woundMillimetre
    t.beams.cutJet = some 40000 ∧ t.beams.current.map (fun o => o.record.cutsDue) = some 28 := by decide +kernel

theorem test_jetTimerExpiry :
    (after (.jetTimerExpiry .cut) { ready with beams := { ready.beams with cutJet := some 0, faultJet := some 5 } }).beams.cutJet
      = none := by decide +kernel

/-- R121, R122: an entry joins and its count is returned; cut 199 is RANGE; PLAN CLEAR returns the number removed. -/
theorem test_plan :
    data (after (.planAppend h3 2108 3000 1000) ready) .p3 = [1]
      ∧ status (after (.planAppend h3 2108 3000 199) ready) .p3 = some 6
      ∧ data (after (.planClear h3) { ready with beams := { ready.beams with plan := [⟨1, 100, 200⟩, ⟨2, 100, 200⟩] } }) .p3
        = [2] := by decide +kernel

/-- R120: the record of age 1 of a store of 2104 to 2107 is 2106. -/
theorem test_releaseBeam :
    let t := after (.releaseBeam h3 1) { ready with beams := { ready.beams with
      store := [beam 2104 1 100000 1, beam 2105 1 100000 1, beam 2106 1 100000 1, beam 2107 1 100000 1] } }
    data t .p3 = [0x08, 0x3A] ∧ t.beams.store.map BeamRecord.number = [2104, 2105, 2107] := by decide +kernel

/-! ### Style sets (chapter 7) -/

theorem test_selectStyle :
    data (after (.selectStyle h0 0) ready) .p0 = [0, 1, 0] ∧ status (after (.selectStyle h0 4) ready) .p0 = some 6 := by
  decide +kernel

/-- R134: the factory yarn group is 4000, 0, 2000, 16. -/
theorem test_readStyle :
    data (after (.readStyle h0 1) ready) .p0 = [0, 1, 0, 1, 0x0F, 0xA0, 0, 0, 0x07, 0xD0, 16] := by decide +kernel

/-- R129: group 1 of the active style is refused ACTIVE_STYLE; curve speeds that do not increase are RANGE. -/
theorem test_writeStyle_refused :
    status (after (.writeStyle h2 (.yarn 1 0 1 4)) ready) .p2 = some 0x10
      ∧ status (after (.writeStyle h2 (.curve .a [⟨5, 1⟩, ⟨5, 2⟩])) ready) .p2 = some 6 := by decide +kernel

theorem test_writeStyle :
    (after (.writeStyle h2 (.curve .b [⟨200, 310⟩, ⟨600, 305⟩])) ready).style.curve.b = [⟨200, 310⟩, ⟨600, 305⟩] := by
  decide +kernel

/-- R131: in IDLE the switch is made at once; with a beam open it is pending. -/
theorem test_activateStyle :
    data (after (.activateStyle h2 1) ready) .p2 = [1, 0, 1]
      ∧ data (after (.activateStyle h2 1) (winding (beam 5 3000000 100000 10) ready)) .p2 = [0, 1, 0] := by decide +kernel

/-! ### Ports (chapters 8 and 10) -/

/-- A port of `ready` whose receive stage holds a frame. -/
def receiving (f : RxFrame) : State := ready.setPort .p0 { ready.port .p0 with state := .receiving, rx := some f }

/-- The READ STATUS frame of tag 0x21. -/
def statusFrame : List Byte := (Instr.readStatus h0).frame

theorem test_characterReceived :
    ((after (.characterReceived .p0 0xB4 false false) ready).port .p0).state = .receiving
      ∧ after (.characterReceived .p0 0x55 false false) ready = ready := by decide +kernel

theorem test_frameComplete :
    ((after (.frameComplete .p0) (receiving ⟨true, statusFrame, 7, false, false, 0⟩)).port .p0).state = .queued := by
  decide +kernel

/-- R137: a parity error is cause 2, answered LINK_ERROR (0x13). -/
theorem test_frameInError :
    let t := after (.frameInError .p0) (receiving ⟨true, statusFrame, 7, false, true, 0⟩)
    status t .p0 = some 0x13 ∧ data t .p0 = [2] := by decide +kernel

/-- R137: a frame cut off by the gap limit is cause 4. -/
theorem test_gapLimitExpiry :
    data (after (.gapLimitExpiry .p0) (receiving ⟨true, [0xB4, 7, 0x21], 3, false, false, 20001⟩)) .p0 = [4] := by
  decide +kernel

/-- R138: a frame begun while the port was not IDLE posts OVERLAP (bit 14) to that port alone. -/
theorem test_frameOverlap :
    let t := after (.frameOverlap .p0) (receiving ⟨false, statusFrame, 7, false, false, 0⟩)
    (t.port .p0).events.getLsbD 14 = true ∧ (t.port .p1).events.getLsbD 14 = false := by decide +kernel

/-- R139: a break empties the event set and restores the full mask unless KEEP is set. -/
theorem test_lineBreak :
    let s := ready.setPort .p0 { ready.port .p0 with state := .queued, queued := statusFrame, mask := 5, keep := true }
    let t := after (.lineBreak .p0) s
    (t.port .p0).state = .idle ∧ (t.port .p0).events = 0 ∧ (t.port .p0).mask = 5 ∧ (t.port .p0).inBreak = true := by
  decide +kernel

theorem test_markConditionReturn :
    ((after (.markConditionReturn .p0) (ready.setPort .p0 { ready.port .p0 with inBreak := true })).port .p0).inBreak
      = false := by decide +kernel

/-- R142, R143: a command with HOLD leaves its port the lock; the end of its reply starts the lock gap of 1,000 ms; its
expiry breaks the lock and posts LOCK_BROKEN (bit 13). -/
theorem test_replySent :
    (after (.replySent .p0) (after (.readStatus { h0 with hold := true }) ready)).arbiter
      = ⟨.p1, some .p0, some ⟨0, 1000000⟩⟩ := by decide +kernel
theorem test_lockGapExpiry :
    let t := after .lockGapExpiry { ready with arbiter := ⟨.p1, some .p0, some ⟨0, 1000000⟩⟩ }
    t.arbiter = ⟨.p1, none, none⟩ ∧ (t.port .p0).events.getLsbD 13 = true := by decide +kernel

/-- Figure 10-10: 38 bytes; in `ready` STOPPED, beam IDLE, start kind NV_LOST (2), positions, pending style and lock
holder absent. -/
theorem test_readStatus :
    let d := data (after (.readStatus h0) ready) .p0
    d.length = 38 ∧ d[0]? = some 0 ∧ d[26]? = some 0 ∧ d[33]? = some 2 ∧ d[37]? = some 0x0F := by decide +kernel

/-- R141: a port without the permission, and a guard that does not hold. -/
theorem test_checks :
    status (after (.doff h1) ready) .p1 = some 0x0A
      ∧ status (after (.readStatus { h0 with guard := 2 }) ready) .p0 = some 5 := by decide +kernel

/-- R146: RESTART (bit 15) is returned and removed. -/
theorem test_exchangeEvents :
    let t := after (.exchangeEvents h0 0xFFFF) ready
    data t .p0 = [0x80, 0x00] ∧ (t.port .p0).events = 0 := by decide +kernel

theorem test_setAttentionMask :
    let t := after (.setAttentionMask h0 0x7FFF 1) ready
    data t .p0 = [0x7F, 0xFF, 0x80, 0x00] ∧ t.attentionLine .p0 = false
      ∧ status (after (.setAttentionMask h0 1 2) ready) .p0 = some 6 := by decide +kernel

/-- R148, R149: a snapshot of the current beam, and its header of 71 bytes behind next index and END. -/
theorem test_snap :
    let t := after (.snap h0 0 0) (winding (beam 2107 3000000 100000 10) ready)
    data t .p0 = [0, 0x08, 0x3B, 0, 0] ∧ (data (after (.readSnap h0 0 0) t) .p0).length = 73 := by decide +kernel

theorem test_readSnap_none :
    status (after (.readSnap h0 0 0) ready) .p0 = some 4 ∧ status (after (.readSnap h0 3 0) ready) .p0 = some 6 := by
  decide +kernel

/-- R157: a code Figure 10-3 does not list is INVALID, from any role. -/
theorem test_unknownCommandCode :
    status (after (.unknownCommandCode h1 0x7F 0 []) ready) .p1 = some 9 := by decide +kernel

/-! ### Settings and starts (chapter 9) -/

/-- Figure 9-1: the factory beam group is 5,000 and 10,000. -/
theorem test_readMachine :
    data (after (.readMachine h0 3) ready) .p0 = [3, 0x13, 0x88, 0x27, 0x10]
      ∧ status (after (.readMachine h0 5) ready) .p0 = some 6 := by decide +kernel

theorem test_writeMachine :
    (after (.writeMachine h2 (.ports 2500)) ready).settings.machine.lockGap = 2500
      ∧ status (after (.writeMachine h2 (.ports 99)) ready) .p2 = some 6
      ∧ status (after (.writeMachine h2 (.ports 2500)) crawling) .p2 = some 8 := by decide +kernel

/-- R151: a table without a STATION is RANGE; a write that changes the writer's own role leaves it no lock. -/
theorem test_writeRoles :
    status (after (.writeRoles h2 0 1 3 3) ready) .p2 = some 6
      ∧ (after (.writeRoles { h2 with hold := true } 2 1 3 3) ready).arbiter.lock = none := by decide +kernel

/-- A bank with the factory settings and a generation count, its check word written. -/
def banked (generation : Long) : Bank := (⟨factorySettings, generation⟩ : BankCopy).sealed

/-- A first settings store is in flight, sent by P2. -/
def storing : State := { ready with nv := ⟨(⟨factorySettings, 1⟩ : BankCopy).unsealed, ready.nv.bank2,
  some ⟨⟨factorySettings, 1⟩, .bank1, .p2, 0⟩⟩ }

/-- R153: with no good bank the store goes to bank 1 with generation 1; at its end STORE_DONE (bit 12) calls P2. -/
theorem test_storeSettings :
    let t := after (.storeSettings h2) ready
    t.nv.flight.map (fun f => (f.bank, f.copy.generation)) = some (.bank1, 1)
      ∧ status (after (.storeSettings h2) (after (.replySent .p2) t)) .p2 = some 7 := by decide +kernel
theorem test_storeEnd :
    let t := after .storeEnd storing
    t.nv.bank1 = banked 1 ∧ (t.port .p2).events.getLsbD 12 = true := ⟨rfl, by decide +kernel⟩

/-- R152: a bank is not good before its check word is written, nor with one that does not match. -/
theorem test_bank_good :
    storing.nv.bank1.good = false ∧ (banked 1).good = true
      ∧ ({ banked 1 with check := (banked 1).check.map (· + 1) } : Bank).good = false :=
  ⟨rfl, BankCopy.good_sealed _, by simp [banked, BankCopy.sealed, Bank.good]⟩

/-- R152: of two good banks the last good one is one above the other modulo 2^32, and bank 1 when neither is. -/
theorem test_lastGood :
    (⟨banked 0xFFFFFFFF, banked 0, none⟩ : NvStore).lastGood = some (.bank2, ⟨factorySettings, 0⟩)
      ∧ (⟨banked 5, banked 7, none⟩ : NvStore).lastGood = some (.bank1, ⟨factorySettings, 5⟩) := by
  simp [NvStore.lastGood, banked]

/-- R153, R154: power-down stops a store and holds the card; a held card acts on nothing but a start. -/
theorem test_retentionMarkWrite :
    let t := after .retentionMarkWrite storing
    t.mark = true ∧ t.nv.flight = none ∧ t.nv.bank1.good = false ∧ after .feedPulse t = t := ⟨rfl, rfl, rfl, rfl⟩

/-- R155: a loss of power-good during the hold ends it. -/
theorem test_retentionMarkWrite_ends_hold :
    State.reset.hold = some 0 ∧ (after .retentionMarkWrite State.reset).hold = none := by decide +kernel

/-- R154: WARM with a good bank, the mark and RETAIN SUPPLY; COLD without RETAIN SUPPLY; NV_LOST without a good bank. -/
theorem test_cardStart :
    let s := { ready with mark := true, power := .held, nv := ⟨banked 1, ready.nv.bank2, none⟩ }
    (after (.cardStart true) s).startKind = .warm ∧ (after (.cardStart false) s).startKind = .cold
      ∧ (after (.cardStart true) { s with nv := ready.nv }).startKind = .nvLost := by
  refine ⟨(cardStart_startKind _ _).trans ?_, (cardStart_startKind _ _).trans ?_, (cardStart_startKind _ _).trans rfl⟩ <;>
    simp [State.startKindFor, NvStore.lastGood, banked, ready, State.reset, Bank.good, BankCopy.sealed]

theorem test_startUpHoldEnd : (after .startUpHoldEnd State.reset).hold = none := by decide +kernel

/-! ### The queue -/

theorem test_step_takes_front :
    step { ready with pending := [.feedPulse, .trackPulse] } = exec .feedPulse { ready with pending := [.trackPulse] } :=
  rfl
theorem test_idle_ticks : (stepped ready).line.timebase = 1 := by decide +kernel

/-- R140: on an empty queue the waiting frame of a port is granted and answered. -/
theorem test_idle_grants :
    let s := ready.setPort .p0 { ready.port .p0 with state := .queued, queued := statusFrame }
    ((stepped s).port .p0).state = .replying ∧ (stepped s).arbiter.pointer = .p1 := by decide +kernel

/-! ### Witnesses: states and operands that meet the hypotheses of each statement, clause by clause -/

theorem witness_StepRunsFrontCommand : ({ ready with pending := [.trackPulse] } : State).pending = .trackPulse :: [] := rfl

/-- The ramp timer at 100 ms. -/
def ramping : State := { ready with boxes := { ready.boxes with rampTimer := 100000 } }

theorem witness_IdleStepRunsWhatIsDueOrTicks :
    (({ ready with power := .held } : State).pending = [] ∧ ({ ready with power := .held } : State).power = .held)
      ∧ (ready.pending = [] ∧ ready.power = .running ∧ ready.dueCommand = none)
      ∧ ramping.dueCommand = some .rampTimerExpiry := by decide +kernel

/-- The ramp expiry alone is due in `ramping`, and in it nothing else. -/
theorem witness_IdleStepRunsWhatIsDueOrTicks_alone :
    Due ramping .rampTimerExpiry ∧ ∀ j, Due ramping j → j = .rampTimerExpiry := by
  refine ⟨.ramp (by decide), ?_⟩
  intro j h
  have hp : ∀ p, (ramping.port p).rx = none := by intro p; cases p <;> rfl
  have hr : ∀ x, (ramping.roll x).state.inMotion = false ∧ (ramping.report x).age = none := by intro x; cases x <;> decide
  cases h with
  | holdEnd t a b => exact nomatch (show (none : Option Nat) = some t from a)
  | frameComplete p f a | frameInError p f a | frameOverlap p f a | gapLimit p f a => exact nomatch (hp p).symm.trans a
  | grant p a => exact nomatch (show none = some p from (show ramping.arbitrate = none by decide +kernel).symm.trans a)
  | standstill t a => exact nomatch (show (none : Option Timer) = some t from a)
  | interval t a b => cases (show some 0 = some t from a); exact absurd b (by decide)
  | ramp => rfl
  | age x t a => exact nomatch (hr x).2.symm.trans a
  | rollStep x a => exact nomatch (hr x).1.symm.trans a
  | autoLift t a b =>
    cases (show some ⟨0, 20000000⟩ = some t from a)
    exact absurd b (by decide)
  | fieldReset a | cutJet a | faultJet a => exact nomatch a
  | lockGap t a => exact nomatch (show (none : Option Timer) = some t from a)
  | sample a => exact absurd a (by decide)
  | storeEnd f a => exact nomatch (show (none : Option StoreFlight) = some f from a)

theorem witness_CommonChecksRefuseInOrder :
    ready.takes h0.port ∧ (request (.doff h1) = some (h1, .doff) ∧ ready.takes h1.port
        ∧ permitted (ready.role h1.port) .doff = false)
      ∧ (ready.takes .p0 ∧ permitted (ready.role .p0) .readStatus = true ∧ ready.guardHolds 2 = false) := by decide +kernel

/-- P2 holds the lock. -/
def locked : State := { ready with arbiter := ⟨.p3, some .p2, none⟩ }

theorem witness_LockKeepsOtherPortsWaiting :
    (Instr.readStatus h0).parts = some (.listed h0 .readStatus []) ∧ locked.power = .running ∧ locked.hold = none
      ∧ locked.arbiter.lock = some .p2 ∧ Port.p2 ≠ h0.port ∧ (locked.port .p0).state = .idle
      ∧ locked.role .p0 ≠ .none := by decide +kernel

theorem witness_EveryGrantedCommandIsAnswered :
    (Instr.readStatus h0).parts = some (.listed h0 .readStatus []) ∧ ready.takes h0.port
      ∧ (Instr.readStatus h2).parts = some (.listed h2 .readStatus []) ∧ locked.takes h2.port := by decide +kernel

/-- A port of `ready` waiting QUEUED with a frame. -/
def waiting (p : Port) (frame : List Byte) : State :=
  ready.setPort p { ready.port p with state := .queued, queued := frame }

theorem witness_ArbiterChoosesByLockUrgencyRotation :
    locked.arbiter.lock = some .p2
      ∧ ((waiting .p0 (Instr.doff h0).frame).arbiter.lock = none
        ∧ (waiting .p0 (Instr.doff h0).frame).waitsUrgent .p0 = true)
      ∧ ((waiting .p1 statusFrame).arbiter.lock = none ∧ (∀ p, (waiting .p1 statusFrame).waitsUrgent p = false)
        ∧ ((waiting .p1 statusFrame).port .p1).state = .queued)
      ∧ (ready.arbiter.lock = none ∧ ∀ p, (ready.port p).state ≠ .queued) := by
  refine ⟨by decide, by decide +kernel, ⟨by decide, ?_, by decide⟩, by decide, ?_⟩
  · intro p; cases p <;> decide +kernel
  · intro p; cases p <;> decide

/-- The longest command frame: 57 parameter bytes. -/
def longest : Instr := .writeStyle h2 (.other 9 (List.replicate 56 0xA5))

theorem witness_DecodeReadsWhatEncodeWrites :
    longest.wellFormed = true ∧ longest.parts = some (.listed h2 .writeStyle (9 :: List.replicate 56 0xA5))
      ∧ (Instr.doff h0).wellFormed = true ∧ (Instr.doff h0).parts = some (.listed h0 .doff []) := by decide +kernel

theorem witness_CleanFrameIsQueued :
    (ready.power = .running ∧ ready.hold = none ∧ ready.role .p2 ≠ .none ∧ (ready.port .p2).state = .idle
        ∧ (ready.port .p2).rx = none ∧ (ready.port .p2).inBreak = false)
      ∧ (longest.frame.length = 64 ∧ longest.frame[0]? = some 0xB4#8
        ∧ (longest.frame[1]?).map BitVec.toNat = some longest.frame.length ∧ checkWordMatches longest.frame = true)
      ∧ (statusFrame.length = 7 ∧ statusFrame[0]? = some 0xB4#8
        ∧ (statusFrame[1]?).map BitVec.toNat = some statusFrame.length ∧ checkWordMatches statusFrame = true) := by
  decide +kernel

theorem witness_CharactersAreAssembled :
    (State.reset.power = .running ∧ State.reset.hold.isSome = true)
      ∧ ((ready.setPort .p0 { ready.port .p0 with inBreak := true }).port .p0).inBreak = true
      ∧ (ready.hold = none ∧ (ready.port .p0).inBreak = false ∧ (ready.port .p0).rx = none ∧ (0xB5#8) ≠ 0xB4#8)
      ∧ (((receiving ⟨true, [0xB4], 1, false, false, 0⟩).port .p0).rx = some ⟨true, [0xB4], 1, false, false, 0⟩
        ∧ (⟨true, [0xB4], 1, false, false, 0⟩ : RxFrame).ended = false)
      ∧ (⟨true, [0xB4, 9], 8, false, false, 0⟩ : RxFrame).ended = false := by decide +kernel

/-- A frame of a length byte, ended by count. -/
def countedFrame (length : Byte) (idle framing parity : Bool) : RxFrame :=
  ⟨idle, [0xB4, length, 0x21, 0x01, 0, 0, 0], length.toNat, framing, parity, 0⟩

/-- A frame that the gap limit cuts off. -/
def cutFrame (length : Byte) (idle framing parity : Bool) : RxFrame := ⟨idle, [0xB4, length], 2, framing, parity, 0⟩

theorem witness_FrameEndsQueueAnswerOrOverlap :
    (∀ f, (receiving f).power = .running ∧ (receiving f).hold = none ∧ (receiving f).role .p0 ≠ .none
        ∧ ((receiving f).port .p0).rx = some f)
      ∧ ((⟨true, statusFrame, 7, false, false, 0⟩ : RxFrame).ended = true
        ∧ (⟨true, statusFrame, 7, false, false, 0⟩ : RxFrame).clean = true)
      ∧ ((countedFrame 7 true true true).ended = true ∧ (countedFrame 7 true true true).clean = false)
      ∧ ((countedFrame 7 true false true).ended = true ∧ (countedFrame 7 true false true).clean = false)
      ∧ ((countedFrame 6 true false false).ended = true ∧ (countedFrame 6 true false false).clean = false
        ∧ (countedFrame 6 true false false).bytes[1]? = some 6)
      ∧ ((countedFrame 65 true false false).ended = true ∧ (countedFrame 65 true false false).clean = false
        ∧ (countedFrame 65 true false false).bytes[1]? = some 65)
      ∧ ((countedFrame 7 true false false).ended = true ∧ (countedFrame 7 true false false).clean = false
        ∧ (countedFrame 7 true false false).bytes[1]? = some 7)
      ∧ (cutFrame 7 true true false).ended = false ∧ (cutFrame 7 true false true).ended = false
      ∧ (cutFrame 6 true false false).ended = false ∧ (cutFrame 64 true false false).ended = false
      ∧ (countedFrame 7 false false false).ended = true ∧ (cutFrame 7 false false false).ended = false := by
  refine ⟨fun f => ⟨rfl, rfl, show Role.line ≠ Role.none by decide, rfl⟩, ?_⟩
  decide +kernel

/-- A port without a role still receives: the state of each of the frames above on it. -/
theorem witness_FrameEndsQueueAnswerOrOverlap_noRole :
    ∀ f, let s : State := { receiving f with settings := { factorySettings with roles := ⟨.none, .process, .station, .data⟩ } }
      s.power = .running ∧ s.hold = none ∧ s.role .p0 = .none ∧ (s.port .p0).rx = some f := by
  intro f; exact ⟨rfl, rfl, rfl, rfl⟩

/-- A reply in transmission on P2, which holds the lock. -/
def replying : State := locked.setPort .p2 { locked.port .p2 with state := .replying, reply := some ⟨[], false⟩ }

theorem witness_BreakReplyEndAndLockGapExpiry :
    (ready.power = .running ∧ ready.hold = none)
      ∧ (replying.port .p2).reply = some ⟨[], false⟩
      ∧ (({ locked with arbiter := ⟨.p3, some .p2, some ⟨0, 1⟩⟩ } : State).arbiter.lock = some .p2
        ∧ ({ locked with arbiter := ⟨.p3, some .p2, some ⟨0, 1⟩⟩ } : State).arbiter.lockGap.isSome = true) := by
  decide +kernel

theorem witness_ReadStatusReturnsStatusAndChangesNothing : ready.admits h0 .readStatus := by decide +kernel
theorem witness_ExchangeEventsTakesAndClears : ready.admits h3 .exchangeEvents := by decide +kernel
theorem witness_SetAttentionMaskSetsMaskAndKeep :
    ready.admits h1 .setAttentionMask ∧ (2 : Byte) ≠ 0 ∧ (2 : Byte) ≠ 1 := by decide +kernel

theorem witness_SnapCopiesAndReadSnapReads :
    let r := beam 7 100000 20000 1
    let s := ready.setPort .p0 { ready.port .p0 with snapshot := some (.beam r) }
    let t := ready.setPort .p0 { ready.port .p0 with snapshot := some (.plan [⟨1, 100, 200⟩]) }
    ready.admits h0 .snap ∧ (3 : Byte).toNat ≤ 3 ∧ 3 < (4 : Byte).toNat ∧ 2 < (3 : Byte).toNat
      ∧ ready.admits h0 .readSnap ∧ (2 : Byte).toNat ≤ 2 ∧ (ready.port .p0).snapshot = none
      ∧ (s.admits h0 .readSnap ∧ (s.port .p0).snapshot = some (.beam r) ∧ (0 : Byte).toNat ≤ r.ranges.length
        ∧ r.ranges.length < (1 : Byte).toNat)
      ∧ (t.admits h0 .readSnap ∧ (t.port .p0).snapshot = some (.plan [⟨1, 100, 200⟩]) ∧ (1 : Byte).toNat ≤ 1
        ∧ 1 < (2 : Byte).toNat) := by decide +kernel

theorem witness_PortStateIsPrivate :
    exec .feedPulse ready = .next (feedPulse ready) ∧ Instr.feedPulse ≠ .lineBreak .p0
      ∧ (∀ r, Instr.feedPulse ≠ .cardStart r) ∧ (∀ h m, Instr.feedPulse = .exchangeEvents h m → h.port ≠ .p0)
      ∧ (∀ h m k, Instr.feedPulse = .setAttentionMask h m k → h.port ≠ .p0)
      ∧ (∀ h a b, Instr.feedPulse = .snap h a b → h.port ≠ .p0)
      ∧ (∀ h i, Instr.feedPulse = .selectStyle h i → h.port ≠ .p0) := by
  exact ⟨rfl, by decide, nofun, nofun, nofun, nofun, nofun⟩

theorem witness_TrackPulseCountsItsLength : crawling.power = .running := rfl

theorem witness_SpeedAndLineStateFollowPeriods :
    (ready.power = .running ∧ ready.line.lineState = .stopped)
      ∧ (crawling.power = .running ∧ crawling.line.lineState ≠ .stopped ∧ crawling.line.lastCapture = some 0
        ∧ crawling.line.lineState = .crawl)
      ∧ (figure12 0 0 0 [] 0 .run).line.lineState = .run := by decide +kernel

theorem witness_FeedPulseCountsAndStandstillStops :
    ready.power = .running ∧ ready.line.lineState = .stopped ∧ crawling.line.lineState ≠ .stopped := by decide +kernel

theorem witness_LeavingStoppedClearsSoakAndAppliesDwell :
    (ready.line.lineState = .stopped ∧ LineState.crawl ≠ .stopped ∧ LineState.run ≠ .stopped)
      ∧ crawling.line.lineState = .crawl ∧ (figure12 0 0 0 [] 0 .run).line.lineState = .run := by decide

/-- Values at the places where the clauses meet: 1,999 half units above and below the travel. -/
theorem witness_StretchIsRoundedAndMarkedAboveLimit :
    (2 * (((3200 : Int) - 3152) * 10000) < 1999 * 3152 ∧ -(1999 * (3152 : Int)) < 2 * ((3200 - 3152) * 10000)
        ∧ (0 : Int) ≤ (3200 - 3152) * 10000)
      ∧ (((3200 : Int) - 3200) * 10000 ≤ 0) ∧ (1999 * (20000 : Int) ≤ 2 * ((21999 - 20000) * 10000))
      ∧ (2 * (((18001 : Int) - 20000) * 10000) ≤ -(1999 * 20000))
      ∧ ((factoryStyle.bands.stretchLimit : Int) < 1000 ∧ (999 : Int) ≤ (factoryStyle.bands.stretchLimit : Int))
      ∧ ready.line.stretchRing = []
      ∧ (let s (feed : Long) : State := { ready with line := { ready.line with feed := feed, stretchRing := [100, 150] } }
        (s 100).line.stretchRing = 100 :: [150] ∧ ((s 100).line.feed - 100).toNat = 0
          ∧ 0 < ((s 101).line.feed - 100).toNat) := by decide +kernel

theorem witness_ClearPathForgetsTheSheet :
    (ready.admits h0 .clearPath ∧ ready.line.lineState = .stopped)
      ∧ (crawling.admits h0 .clearPath ∧ crawling.line.lineState ≠ .stopped) := by decide +kernel

theorem witness_ReadSegmentReturnsTheRecord :
    ready.admits h3 .readSegment ∧ 2 < (3 : Byte).toNat ∧ ready.geometry.depthA ≤ (40 : Word).toNat
      ∧ (39 : Word).toNat < ready.geometry.depthA ∧ ready.geometry.depthB ≤ (32 : Word).toNat
      ∧ (31 : Word).toNat < ready.geometry.depthB ∧ ready.geometry.depthMain ≤ (180 : Word).toNat
      ∧ (179 : Word).toNat < ready.geometry.depthMain := by decide +kernel

theorem witness_FindReturnsTheFirstMatch :
    figure26.admits h0 .find ∧ laneOf 3 = none ∧ laneOf 2 = some .main ∧ figure26.depth .main ≤ (4 : Word).toNat
      ∧ queryOf .main 0 2 0 = none ∧ (3 : Word).toNat < figure26.depth .main
      ∧ queryOf .main 4 2 110 = some (.ge .moisture 110) := by decide +kernel

theorem witness_BoundaryClosesAndShifts :
    (figure25after2.path.sequence < 4294967295 ∧ figure25after2.laneExists .a = true ∧ figure25after2.laneExists .b = true)
      ∧ ({ figure25 with settings := { figure25.settings with machine := { figure25.settings.machine with
          geometry := { figure25.settings.machine.geometry with depthB := 0 } } } } : State).laneBExists = false
      ∧ (0 + 1 < figure25after2.path.main.length ∧ 0 + 1 ≠ figure25after2.geometry.gauge)
      ∧ ({ figure25 with path := { figure25.path with sequence := 4294967295 } } : State).path.sequence = 4294967295 := by
  decide +kernel

theorem witness_MergeJoinsItsParts :
    (none : Option LaneRecord).or (some (lrec 1)) = some (lrec 1) ∧ figure25.laneBExists = true
      ∧ (some (lrec 2)).or (some (lrec 1)) = some (lrec 2)
      ∧ shares (lrec 1).causes Cause.untrackedPart.set = false := by decide +kernel

theorem witness_LiquorPulseCountsAndAgeExpiryMakesStale :
    (ready.power = .running ∧ ready.laneExists .a = true ∧ (ready.segment .a).pulses ≤ 65535)
      ∧ ({ ready with settings := { ready.settings with machine := { ready.settings.machine with
          geometry := { ready.settings.machine.geometry with depthB := 0 } } } } : State).laneExists .b = false
      ∧ (ready.report .a).state ≠ .fresh ∧ ((nipA [] 0 115).power = .running ∧ ((nipA [] 0 115).report .a).state = .fresh) := by
  decide +kernel

theorem witness_ProcessReportsAreStored :
    ready.admits h1 .reportBox ∧ ready.existingBox 2 = none ∧ ready.existingBox 1 = some .b
      ∧ ready.admits h1 .zoneHeat ∧ zoneOf 6 = none ∧ 1 < (2 : Byte).toNat ∧ zoneOf 5 = some .main4
      ∧ (1 : Byte).toNat ≤ 1 := by decide +kernel

theorem witness_AddOnFollowsWindowAndReport :
    (ready.style.yarn.ends.get .b = 0)
      ∧ (ready.style.yarn.ends.get .a ≠ 0 ∧ (ready.report .a).state = .unknown)
      ∧ ((nipA [] 0 115).style.yarn.ends.get .a ≠ 0 ∧ ((nipA [] 0 115).report .a).state ≠ .unknown
        ∧ ((nipA [] 0 115).report .a).concentration = some 115 ∧ ((nipA [] 0 115).report .a).density = some 1045)
      ∧ (0 < (lrec 1).ends ∧ (lrec 1).addOn = some 1399 ∧ ({ lrec 1 with ends := 0 } : LaneRecord).ends = 0
        ∧ ({ lrec 1 with addOn := none } : LaneRecord).addOn = none) := by decide +kernel

theorem witness_IntervalExpiryAdvancesSoakAndDwell :
    (ready.power = .running ∧ ready.monitor.interval.isSome = true) ∧ crawling.monitor.interval = none
      ∧ ((figure42 299 599).inUse .b = true ∧ ((figure42 299 599).soak .b).immersed = true
        ∧ 10 * (figure42 299 599).style.boxes.soakLimit ≤ ((figure42 299 599).soak .b).timer + 1)
      ∧ ((figure42 298 598).inUse .b = true
        ∧ ((figure42 298 598).soak .b).timer + 1 < 10 * (figure42 298 598).style.boxes.soakLimit)
      ∧ ((figure42 299 599).zoneRange .main1).isSome = true
      ∧ ((figure42 299 599).monitor.zones.get .main1).heated = true := by decide +kernel

theorem witness_GaugeSampleMovesTheGauge :
    ready.power = .running ∧ (359 < 360 ∨ 2080 < 359) ∧ (360 ≤ 360 ∧ 360 ≤ 2080) ∧ (360 ≤ 2080 ∧ 2080 ≤ 2080)
      ∧ (2081 < 360 ∨ 2080 < 2081) := by decide

theorem witness_GaugeAndMarkerArrivals :
    slotAt ready.path.main ready.geometry.gauge = none ∧ ready.monitor.gauge ≠ .valid
      ∧ (let s : State := { figure26 with monitor := { figure26.monitor with gauge := .valid, regain := some 98 } }
        slotAt s.path.main s.geometry.gauge = some (mrec 5 (some 98)) ∧ s.monitor.gauge = .valid
          ∧ s.monitor.regain = some 98)
      ∧ ({ mrec 5 none with causes := Cause.soak.set } : MainRecord).causes &&& ready.style.masks.ink ≠ 0
      ∧ (mrec 5 none).causes &&& ready.style.masks.ink = 0 ∧ ready.boxes.fieldReset = none := by decide +kernel

theorem witness_RampMovesPressureTowardTarget :
    ready.power = .running ∧ (ready.boxes.pressure.get .a).commanded ≤ 40
      ∧ 40 ≤ (({ ready with boxes := { ready.boxes with pressure := ⟨⟨60, 60⟩, ⟨0, 0⟩⟩ } } : State).boxes.pressure.get
        .a).commanded := by decide +kernel

theorem witness_CurveRoundsToNearestPressure :
    let curve : List CurvePoint := [⟨200, 310⟩, ⟨600, 305⟩]
    curveIncreases curve = true ∧ 200 ≤ 200 ∧ (curve.getLast? = some ⟨600, 305⟩ ∧ 600 ≤ 600) ∧ (⟨600, 305⟩ ∈ curve)
      ∧ (curve[0]? = some ⟨200, 310⟩ ∧ curve[0 + 1]? = some ⟨600, 305⟩ ∧ 200 < 240 ∧ 240 < 600) := by decide

/-- Roll A in a state, at a position, in AT_DEPTH or UNKNOWN as the state gives. -/
def rolling (state : RollState) (position : Nat) : State :=
  ready.setRoll .a ⟨state, position, depthOf state position 1000, none, 0⟩

theorem witness_RollStepMovesOneStep :
    (ready.power = .running ∧ (ready.roll .a).state = .unrefIdle)
      ∧ ((rolling (.moving 1001 ⟨.p0, 500⟩) 1000).roll .a).state = .moving 1001 ⟨.p0, 500⟩
      ∧ ((rolling (.moving 1002 ⟨.p0, 500⟩) 1000).roll .a).state = .moving 1002 ⟨.p0, 500⟩
      ∧ ((rolling .autoLift 1).roll .a).state = .autoLift
      ∧ ((rolling (.autoLower 1000) 0).roll .a).state = .autoLower 1000
      ∧ (((rolling (.autoLower 1000) 1000).roll .a).state = .autoLower 1000
        ∧ ((rolling (.autoLower 1000) 1000).roll .a).position = 1000)
      ∧ (((rolling (.homing 2198 ⟨.p0, 0⟩) 0).roll .a).state = .homing 2198 ⟨.p0, 0⟩
        ∧ 2198 + 1 < ready.actuators.travel + 200 ∧ ready.actuators.travel + 200 ≤ 2199 + 1) := by decide +kernel

theorem witness_HomeSwitchEndsTheHome :
    ready.power = .running ∧ (∀ n f, (ready.roll .a).state ≠ .homing n f)
      ∧ ((rolling (.homing 3 ⟨.p0, 0⟩) 0).roll .a).state = .homing 3 ⟨.p0, 0⟩ := by
  refine ⟨rfl, ?_, rfl⟩
  intro n f h; exact absurd h (by simp [ready, State.reset, State.roll, PerBox.get, RollChannel.start])

theorem witness_MoveRollStartsTheMove :
    (ready.admits h2 .moveRoll ∧ ready.existingBox 2 = none ∧ 1 < (2 : Byte).toNat ∧ ready.existingBox 0 = some .a
        ∧ (1 : Byte).toNat ≤ 1 ∧ ready.boxes.fieldReset = none ∧ (ready.roll .a).state = .unrefIdle)
      ∧ ((rolling .autoLift 1).roll .a).state.inMotion = true
      ∧ ((rolling .idle 1000).admits h2 .moveRoll ∧ ((rolling .idle 1000).roll .a).state = .idle
        ∧ ((rolling .idle 1000).roll .a).slot = none ∧ (rolling .idle 1000).boxes.fieldReset = none)
      ∧ ((ready.setRoll .a ⟨.idle, 0, .out, some ⟨.home, .done, 0, some 0, .p0⟩, 0⟩).roll .a).slot.isSome = true := by
  decide +kernel

theorem witness_HomeRollStartsAndCollectTakes :
    (ready.admits h0 .homeRoll ∧ ready.existingBox 2 = none ∧ ready.existingBox 0 = some .a
        ∧ ready.boxes.fieldReset = none ∧ (ready.roll .a).state.inMotion = false ∧ (ready.roll .a).slot = none
        ∧ ready.boxes.homeSwitch.get .a = false)
      ∧ ({ ready with boxes := { ready.boxes with homeSwitch := ⟨true, false⟩ } } : State).boxes.homeSwitch.get .a = true
      ∧ ({ ready with boxes := { ready.boxes with fieldReset := some 1 } } : State).boxes.fieldReset.isSome = true
      ∧ ready.admits h2 .collect := by decide +kernel

theorem witness_AutoLiftLiftsReferencedRolls :
    (ready.power = .running ∧ ready.boxes.autoLift.isSome = true) ∧ crawling.boxes.autoLift = none
      ∧ (let s := rolling (.moving 1001 ⟨.p0, 500⟩) 1000
        s.laneExists .a = true ∧ 0 < (s.roll .a).position ∧ (s.roll .a).state.referenced = true
          ∧ (s.roll .a).state ≠ .autoLift ∧ (s.roll .a).state = .moving 1001 ⟨.p0, 500⟩) := by decide +kernel

theorem witness_ResetFieldUnreferencesTheRolls :
    (ready.admits h0 .resetField ∧ ready.boxes.fieldReset = none ∧ ready.laneExists .b = true)
      ∧ (({ ready with boxes := { ready.boxes with fieldReset := some 1 } } : State).admits h0 .resetField)
      ∧ ((rolling (.homing 3 ⟨.p0, 0⟩) 0).roll .a).state = .homing 3 ⟨.p0, 0⟩
      ∧ ((rolling (.moving 1001 ⟨.p0, 500⟩) 1000).roll .a).state = .moving 1001 ⟨.p0, 500⟩ := by decide +kernel

theorem witness_ExpiriesEndTheirOutputAlone : ready.power = .running := rfl

theorem witness_MillimetreTestsMarksAndPoints :
    ready.beams.current = none
      ∧ (winding (beam 7 100000 20000 4294967294) ready).beams.current.isSome = true
      ∧ (beam 7 100000 20000 4294967294).wound < 4294967295
      ∧ 4294967295 ≤ (beam 7 100000 20000 4294967295).wound := by decide +kernel

theorem witness_DeliveryGrowsTheFaultMap :
    ready.beams.current = none ∧ (winding (beam 7 100000 20000 400) ready).beams.current
        = some ⟨.opened, beam 7 100000 20000 400, ready.compares 100000⟩
      ∧ (beam 7 100000 20000 400).wound < 4294967295 ∧ 4294967295 ≤ (beam 7 100000 20000 4294967295).wound
      ∧ Cause.untracked.set &&& ready.style.masks.beamFault ≠ 0 ∧ (mrec 5 none).causes &&& ready.style.masks.beamFault = 0
      ∧ (beam 7 100000 20000 400).ranges = []
      ∧ (41000 ≤ (⟨40000, 40000, 0, false⟩ : FaultRange).finish + ready.style.drying.mergeGap)
      ∧ ((⟨40000, 40000, 0, false⟩ : FaultRange).finish + ready.style.drying.mergeGap < 41001) := by decide +kernel

theorem witness_DoffClosesAndOpensBeams :
    (crawling.admits h0 .doff ∧ crawling.line.lineState ≠ .stopped)
      ∧ (ready.admits h0 .doff ∧ ready.line.lineState = .stopped ∧ ready.beams.current = none ∧ ready.beams.plan = [])
      ∧ ((winding (beam 7 100000 20000 0) ready).admits h0 .doff ∧ (beam 7 100000 20000 0).wound = 0)
      ∧ ((winding (beam 65535 100000 20000 1) ready).admits h0 .doff ∧ (beam 65535 100000 20000 1).wound ≠ 0) := by
  decide +kernel

theorem witness_CloseSetClosesWithoutOpening :
    crawling.admits h0 .closeSet ∧ ready.admits h0 .closeSet ∧ ready.beams.current = none
      ∧ (winding (beam 7 100000 20000 0) ready).admits h0 .closeSet := by decide +kernel

theorem witness_SetTargetDecidesTheState :
    ready.admits h2 .setTarget ∧ (99 : Word).toNat < 100 ∧ 60000 < (60001 : Word).toNat
      ∧ (100 ≤ (100 : Word).toNat ∧ (60000 : Word).toNat ≤ 60000 ∧ ready.beams.current = none)
      ∧ (winding (beam 7 100000 20000 5) ready).admits h2 .setTarget := by decide +kernel

theorem witness_PlanAndStoreCommands :
    ready.admits h3 .planAppend ∧ (1 ≤ (1 : Word).toNat ∧ 100 ≤ (100 : Word).toNat ∧ 200 ≤ (200 : Word).toNat)
      ∧ ¬(200 ≤ (199 : Word).toNat) ∧ ready.beams.plan.length < 12
      ∧ 12 ≤ ({ ready with beams := { ready.beams with plan := List.replicate 12 ⟨1, 100, 200⟩ } } : State).beams.plan.length
      ∧ ready.admits h3 .planClear ∧ ready.admits h3 .releaseBeam ∧ 3 < (4 : Byte).toNat
      ∧ ready.beams.store.length ≤ (0 : Byte).toNat
      ∧ ({ ready with beams := { ready.beams with store := [beam 1 100000 20000 1, beam 2 100000 20000 1] } } : State).beams.store
        = [beam 1 100000 20000 1] ++ beam 2 100000 20000 1 :: [] := by decide +kernel

theorem witness_SelectionsAndReadsOfSettings :
    ready.admits h0 .selectStyle ∧ (3 : Byte).toNat = (3 : StyleIndex) ∧ 3 < (4 : Byte).toNat ∧ ready.admits h0 .readStyle
      ∧ 7 < (8 : Byte).toNat ∧ ((7 : Byte) ≠ 0 ∧ (7 : Byte).toNat ≤ 7) ∧ ready.admits h0 .readMachine
      ∧ 4 < (5 : Byte).toNat ∧ (4 : Byte).toNat ≤ 4 := by decide +kernel

theorem witness_WriteStyleReplacesOneGroup :
    ready.admits h2 .writeStyle ∧ (storing.admits h2 .writeStyle ∧ storing.nv.flight.isSome = true)
      ∧ (ready.nv.flight = none ∧ ready.settings.active = (ready.port .p2).selected)
      ∧ (StyleWrite.boxes 4000 0 600 0 10).inRange = true ∧ (StyleWrite.boxes 4001 0 0 0 10).inRange = false
      ∧ (StyleWrite.masks 1 2).inRange = true := by decide +kernel

theorem witness_ActivateStyleSwitchesOrPends :
    ready.admits h2 .activateStyle ∧ 3 < (4 : Byte).toNat ∧ (3 : Byte).toNat = (3 : StyleIndex)
      ∧ (ready.nv.flight = none ∧ ready.settings.active ≠ 3 ∧ ready.laneBExists = true ∧ ready.beams.current = none)
      ∧ ready.settings.active = 0 ∧ storing.admits h2 .activateStyle
      ∧ (winding (beam 7 100000 20000 5) ready).admits h2 .activateStyle
      ∧ (let s : State := { ready with settings := { ready.settings with
            machine := { ready.settings.machine with geometry := { ready.settings.machine.geometry with depthB := 0 } }
            styles := ready.settings.styles.set 3 { factoryStyle with yarn := ⟨⟨1, 1⟩, 1, 4⟩ } } }
        s.admits h2 .activateStyle ∧ s.laneBExists = false ∧ 1 ≤ (s.settings.styles.get 3).yarn.ends.b) := by
  decide +kernel

/-- The geometry of Figure 9-1, as a write carries it. -/
def rawGeometry : RawGeometry :=
  ⟨40, 32, 180, ⟨1, 10, 35⟩, ⟨1, 8, 27⟩, ⟨1, 0, 39⟩, ⟨1, 40, 79⟩, ⟨1, 80, 119⟩, ⟨0, 0, 0⟩, 130, 140, 0, 800, 800⟩

theorem witness_WriteMachineAndRolesReplaceOneGroup :
    (ready.admits h2 .writeMachine ∧ ready.nv.flight = none ∧ ready.line.lineState = .stopped
        ∧ ready.beams.current = none ∧ (ready.roll .a).state.inMotion = false ∧ (ready.roll .b).state.inMotion = false)
      ∧ ((MachineWrite.geometry rawGeometry).inRange = true
        ∧ (MachineWrite.geometry rawGeometry).takesBoxB ready = false)
      ∧ (MachineWrite.actuators 100 50 600 100 600 1 10).inRange = true ∧ (MachineWrite.ports 99).inRange = false
      ∧ (let s : State := { ready with settings := { ready.settings with
            styles := ready.settings.styles.set 0 { factoryStyle with yarn := ⟨⟨1, 1⟩, 1, 4⟩ } } }
        s.admits h2 .writeMachine
          ∧ (MachineWrite.geometry { rawGeometry with depthB := 0, predryB := ⟨0, 0, 0⟩ }).inRange = true
          ∧ (MachineWrite.geometry { rawGeometry with depthB := 0, predryB := ⟨0, 0, 0⟩ }).takesBoxB s = true)
      ∧ crawling.admits h2 .writeMachine ∧ storing.admits h2 .writeMachine
      ∧ (winding (beam 7 100000 20000 5) ready).admits h2 .writeMachine
      ∧ ((rolling .autoLift 1).admits h2 .writeMachine ∧ ((rolling .autoLift 1).roll .a).state.inMotion = true)
      ∧ ready.admits h2 .writeRoles
      ∧ (roleOf 2 = some .station ∧ roleOf 4 = some .none ∧ (4 : Byte).toNat ≤ 4 ∧ ¬((5 : Byte).toNat ≤ 4)) := by
  decide +kernel

theorem witness_StoreWritesTheOtherBank :
    ready.admits h2 .storeSettings ∧ (storing.admits h2 .storeSettings ∧ storing.nv.flight.isSome = true)
      ∧ (ready.nv.flight = none ∧ ready.nv.bank1.good = false ∧ ready.nv.bank2.good = false)
      ∧ (let s : State := { ready with nv := ⟨banked 0xFFFFFFFF, banked 0, none⟩ }
        s.admits h2 .storeSettings ∧ s.nv.bank1.good = true ∧ s.nv.bank2.good = true
          ∧ s.nv.bank2.content.generation = s.nv.bank1.content.generation + 1)
      ∧ storing.power = .running ∧ ready.nv.flight = none
      ∧ (storing.nv.flight = some ⟨⟨factorySettings, 1⟩, .bank1, .p2, 0⟩) := by
  refine ⟨by decide +kernel, by decide +kernel, by decide +kernel, ⟨by decide +kernel, ?_, ?_, by decide +kernel⟩, rfl, rfl,
    rfl⟩ <;> exact BankCopy.good_sealed _

/-- The three kinds of start are met: without a good bank, with the mark intact, and with it erased. -/
theorem witness_CardStartDecidesTheKind :
    let s : State := { ready with nv := ⟨ready.nv.bank1, banked 1, none⟩ }
    (ready.nv.bank1.good = false ∧ ready.nv.bank2.good = false)
      ∧ (after (.cardStart true) { s with mark := true }).startKind = .warm
      ∧ (after (.cardStart true) { s with mark := false }).startKind = .cold
      ∧ (after (.cardStart true) ready).startKind = .nvLost
      ∧ storing.nv.flight = some ⟨⟨factorySettings, 1⟩, .bank1, .p2, 0⟩ := by
  refine ⟨⟨rfl, rfl⟩, (cardStart_startKind _ _).trans ?_, (cardStart_startKind _ _).trans ?_,
    (cardStart_startKind _ _).trans rfl, rfl⟩ <;>
    simp [State.startKindFor, NvStore.lastGood, banked, ready, State.reset, Bank.good, BankCopy.sealed]

/-- A card at work: one boundary past, a beam open with its marks due counted, a command waiting. -/
def working : State := { winding (beam 2107 3000000 100000 2700000) ready with
  path := { ready.path with
    lanes := ⟨some (lrec 1) :: List.replicate 39 none, some (lrec 1) :: List.replicate 31 none⟩, sequence := 1 }
  pending := [.feedPulse] }

theorem witness_step_of_the_invariants : step working = .next (feedPulse { working with pending := [] }) := rfl

theorem witness_StepKeepsSettingsAndPortsLegal : working.settingsLegal ∧ working.portsLegal := by
  refine ⟨?_, ?_, ?_, ?_, ?_⟩
  · unfold State.settingsLegal; decide +kernel
  · intro p; cases p <;> decide +kernel
  · intro p f h; cases p <;> exact absurd h (by simp [working, winding, ready, State.reset, State.setBeam, State.port,
      PerPort.get, PortUnit.start])
  · decide +kernel
  · decide +kernel

theorem witness_StepKeepsLanesUnbroken : working.settingsLegal ∧ working.pathLegal := by
  unfold State.settingsLegal State.pathLegal; decide +kernel

theorem witness_StepKeepsLineAndAddOnLegal : working.lineLegal ∧ working.addOnLegal := by
  unfold State.lineLegal State.addOnLegal; decide +kernel

theorem witness_StepKeepsBoxesLegal : working.boxesLegal := by
  unfold State.boxesLegal State.rollLegal; decide +kernel

theorem witness_StepKeepsBeamsLegal : working.settingsLegal ∧ working.beamsLegal := by
  unfold State.settingsLegal State.beamsLegal; decide +kernel

end Sys2Proof.Tests
end

section
/-! Length, speed and LINE STATE: which operations spare the Length Counter Unit, what a change of LINE STATE and a
counted millimetre leave of its motion, the stretch of a boundary, and the proofs of the statements about them. -/

namespace Sys2Proof.Machine

/-! ### Operations that neither read nor write the Length Counter Unit -/

/-- The state with the Length Counter Unit replaced. -/
def State.withLine (s : State) (u : LengthUnit) : State := { s with line := u }

/-- An operation that neither reads nor writes the Length Counter Unit and keeps the settings: what every announcement
of a change of LINE STATE is (R8). -/
structure SparesLine (f : State → State) : Prop where
  withLine : ∀ s u, f (s.withLine u) = (f s).withLine u
  settings : ∀ s, (f s).settings = s.settings

namespace SparesLine
variable {f g : State → State}

theorem id : SparesLine fun s => s := ⟨fun _ _ => rfl, fun _ => rfl⟩

theorem comp (hg : SparesLine g) (hf : SparesLine f) : SparesLine fun s => g (f s) :=
  ⟨fun s u => by rw [hf.withLine, hg.withLine], fun s => by rw [hg.settings, hf.settings]⟩

theorem ite {p : State → Prop} [DecidablePred p] (hp : ∀ s u, p (s.withLine u) ↔ p s) (hf : SparesLine f)
    (hg : SparesLine g) : SparesLine fun s => if p s then f s else g s where
  withLine s u := by
    simp only [hp]
    split
    · exact hf.withLine s u
    · exact hg.withLine s u
  settings s := by
    split
    · exact hf.settings s
    · exact hg.settings s

theorem foldl {α : Type} {f : State → α → State} (h : ∀ a, SparesLine fun s => f s a) (l : List α) :
    SparesLine fun s => l.foldl f s := by
  induction l with
  | nil => exact id
  | cons a l ih => exact ih.comp (h a)

theorem addToZone (z : Zone) (c : CauseSet) (d : Nat) : SparesLine fun s => s.addToZone z c d where
  withLine s u := by
    have hr : (s.withLine u).zoneRange z = s.zoneRange z := rfl
    simp only [State.addToZone, hr]
    cases s.zoneRange z with
    | none => rfl
    | some r => cases z <;> rfl
  settings s := by rw [State.addToZone_path]

theorem applyDwell (z : Zone) : SparesLine fun s => s.applyDwell z where
  withLine s u := by
    have ha : (s.withLine u).monitor = s.monitor := rfl
    simp only [State.applyDwell, ha]
    split
    · exact (addToZone z 0 _).withLine s u
    · rfl
  settings s := by
    unfold State.applyDwell
    dsimp only
    split
    · exact (addToZone z 0 _).settings s
    · rfl

theorem monitorLeaveStop : SparesLine State.monitorLeaveStop :=
  comp (g := fun t => { t with monitor := { t.monitor with
      interval := none
      soak := ⟨t.monitor.soak.a.leaveStop, t.monitor.soak.b.leaveStop⟩
      zones := t.monitor.zones.mapWith fun _ c => c.leaveStop } })
    ⟨fun _ _ => rfl, fun _ => rfl⟩ (foldl applyDwell Zone.all)

theorem addCausesInUse (x : Box) (c : CauseSet) : SparesLine fun s => s.addCausesInUse x c :=
  ⟨fun s u => by rw [State.addCausesInUse_eq, State.addCausesInUse_eq]; rfl,
    fun s => by rw [State.addCausesInUse_eq]; rfl⟩

theorem markCrawl : SparesLine State.markCrawl := (addCausesInUse .b _).comp (addCausesInUse .a _)

theorem monitorAnnounce (old new : LineState) : SparesLine fun s => s.monitorAnnounce old new := by
  have leaving : SparesLine fun s => if old = .stopped ∧ new ≠ .stopped then s.monitorLeaveStop else s := by
    split
    · exact monitorLeaveStop
    · exact id
  cases new with
  | crawl => exact markCrawl.comp leaving
  | stopped =>
    have timed : SparesLine fun t => { t with monitor := { t.monitor with interval := some 0 } } :=
      ⟨fun _ _ => rfl, fun _ => rfl⟩
    exact timed.comp leaving
  | run => exact leaving

theorem autoLowerRoll (x : Box) : SparesLine fun s => s.autoLowerRoll x where
  withLine s u := by
    have hu : (s.withLine u).inUse x = s.inUse x := rfl
    have hr : (s.withLine u).roll x = s.roll x := rfl
    have hd : (s.withLine u).dip x = s.dip x := rfl
    simp only [State.autoLowerRoll, hu, hr, hd]
    split
    · split
      · split <;> rfl
      all_goals rfl
    · rfl
  settings s := by
    simp only [State.autoLowerRoll]
    split
    · split
      · split <;> rfl
      all_goals rfl
    · rfl

theorem boxesAnnounce (old new : LineState) : SparesLine fun s => s.boxesAnnounce old new := by
  unfold State.boxesAnnounce
  split
  · exact ⟨fun _ _ => rfl, fun _ => rfl⟩
  · split
    · have cleared : SparesLine fun s => { s with boxes := { s.boxes with autoLift := none } } :=
        ⟨fun _ _ => rfl, fun _ => rfl⟩
      have lowered := (autoLowerRoll .b).comp (autoLowerRoll .a)
      exact (ite (p := fun s => s.actuators.autoDip = true) (fun _ _ => Iff.rfl) lowered id).comp cleared
    · exact id

theorem beamAnnounce (new : LineState) : SparesLine fun s => s.beamAnnounce new where
  withLine s u := by
    have hb : (s.withLine u).beams = s.beams := rfl
    simp only [State.beamAnnounce, hb]
    cases s.beams.current with
    | none => rfl
    | some o => cases new <;> rfl
  settings s := by
    unfold State.beamAnnounce
    split <;> rfl

end SparesLine

/-! ### A change of LINE STATE (R8) -/

/-- All three announcements of a change of LINE STATE. -/
theorem sparesLine_announce (old new : LineState) :
    SparesLine fun s => ((s.monitorAnnounce old new).boxesAnnounce old new).beamAnnounce new :=
  ((SparesLine.beamAnnounce new).comp (SparesLine.boxesAnnounce old new)).comp (SparesLine.monitorAnnounce old new)

/-- Of the Length Counter Unit a change of LINE STATE reads and writes LINE STATE alone. -/
theorem State.changeLineState_withLine (s : State) (new : LineState) {u : LengthUnit}
    (hu : u.lineState = s.line.lineState) :
    (s.withLine u).changeLineState new = (s.changeLineState new).withLine { u with lineState := new } := by
  have ho : (s.withLine u).line.lineState = s.line.lineState := hu
  simp only [State.changeLineState, ho]
  split
  · next h => rw [h, ← hu]
  · exact (sparesLine_announce s.line.lineState new).withLine
      (s.withLine { s.line with lineState := new }) { u with lineState := new }

@[simp] theorem State.changeLineState_line (s : State) (new : LineState) :
    (s.changeLineState new).line = { s.line with lineState := new } := by
  have h := s.changeLineState_withLine new (u := s.line) rfl
  exact (congrArg State.line h :)

@[simp] theorem State.changeLineState_settings (s : State) (new : LineState) :
    (s.changeLineState new).settings = s.settings := by
  unfold State.changeLineState
  dsimp only
  split
  · rfl
  · exact (sparesLine_announce s.line.lineState new).settings _

/-! ### The line-state work of a TRACK PULSE (R3 to R7) -/

/-- Speed, LINE STATE and the ring of periods: what a TRACK PULSE settles before it counts its length. -/
def LengthUnit.motion (u : LengthUnit) : Nat × LineState × List Nat := (u.speed, u.lineState, u.periods)

theorem LengthUnit.motion_eq {u v : LengthUnit} :
    u.motion = v.motion ↔ u.speed = v.speed ∧ u.lineState = v.lineState ∧ u.periods = v.periods := by
  simp [LengthUnit.motion]

/-- A state with its line latched at the time of `s`, and its standstill timer started anew at the timeout of `s`
(R3, R5). -/
def State.latchedAs (t s : State) : State :=
  t.withLine { t.line with
    lastCapture := some s.line.timebase
    standstill := some ⟨0, s.measurement.standstillTimeout * Config.millisecond⟩ }

/-- Latching and starting the timer after a change of LINE STATE, which keeps timebase and settings. -/
theorem State.startStandstill_latched {t s : State} (hb : t.line.timebase = s.line.timebase)
    (hs : t.settings = s.settings) :
    (t.withLine { t.line with lastCapture := some t.line.timebase }).startStandstill = t.latchedAs s := by
  have hm : t.measurement = s.measurement := by rw [State.measurement, hs]; rfl
  rw [State.latchedAs, ← hb, ← hm]
  rfl

/-- The first TRACK PULSE after a standstill: speed 0 and CRAWL, without a period (R5). -/
theorem State.trackLineWork_stopped (s : State) (h : s.line.lineState = .stopped) :
    s.trackLineWork = ((s.withLine { s.line with speed := 0 }).changeLineState .crawl).latchedAs s := by
  rw [State.trackLineWork, if_pos h]
  refine State.startStandstill_latched ?_ (State.changeLineState_settings _ _)
  rw [State.changeLineState_line]

/-- The state R4 and R6 leave when a pulse has added a period: ring and speed new, LINE STATE compared. -/
def State.paced (s : State) (ring : List Nat) : State :=
  let v := speedFigure s.measurement.trackWeight ring
  (s.withLine { s.line with periods := ring, speed := v }).changeLineState
    (comparedLineState s.line.lineState v s.style.bands.crawlThreshold s.measurement.hysteresis)

theorem State.paced_line (s : State) (ring : List Nat) :
    (s.paced ring).line = { s.line with
      periods := ring
      speed := speedFigure s.measurement.trackWeight ring
      lineState := comparedLineState s.line.lineState (speedFigure s.measurement.trackWeight ring)
        s.style.bands.crawlThreshold s.measurement.hysteresis } :=
  State.changeLineState_line _ _

/-- The speed computation does not see the latch made before it. -/
theorem State.computeSpeed_latched (s : State) (ring : List Nat) (now : Long) :
    (s.withLine { s.line with periods := ring, lastCapture := some now }).computeSpeed
      = (s.paced ring).withLine { (s.paced ring).line with lastCapture := some now } := by
  rw [State.paced_line]
  exact State.changeLineState_withLine (s.withLine { s.line with
    periods := ring, speed := speedFigure s.measurement.trackWeight ring }) _ rfl

/-- A later TRACK PULSE: the speed and LINE STATE its period gives (R3, R4, R6). -/
theorem State.trackLineWork_moving (s : State) {last : Long} (h : s.line.lineState ≠ .stopped)
    (hl : s.line.lastCapture = some last) :
    s.trackLineWork = (s.paced
      (pushRing Config.periodWindow s.line.periods (latchedPeriod s.line.timebase last))).latchedAs s := by
  have hlatch : s.line.latch = { s.line with
      periods := pushRing Config.periodWindow s.line.periods (latchedPeriod s.line.timebase last)
      lastCapture := some s.line.timebase } := by
    rw [LengthUnit.latch, hl]
  generalize pushRing Config.periodWindow s.line.periods (latchedPeriod s.line.timebase last) = ring at hlatch ⊢
  have hb : (s.paced ring).line.timebase = s.line.timebase := by rw [State.paced_line]
  have hc := s.computeSpeed_latched ring s.line.timebase
  rw [State.withLine, ← hlatch] at hc
  rw [State.trackLineWork, if_neg h, hl]
  change ({ s with line := s.line.latch } : State).computeSpeed.startStandstill = _
  rw [hc, ← hb]
  exact State.startStandstill_latched hb (State.changeLineState_settings _ _)

@[simp] theorem State.latchedAs_motion (t s : State) : (t.latchedAs s).line.motion = t.line.motion := rfl

/-! ### What counted length leaves of the line's motion -/

@[simp] theorem State.postIf_line (s : State) (c : Bool) (f : Flag) : (s.postIf c f).line = s.line := by
  rw [State.postIf_eq]

@[simp] theorem State.openSegment_line (s : State) (x : Box) (extra : CauseSet) :
    (s.openSegment x extra).line = s.line := by
  rw [State.openSegment_eq, State.setSegment_line]

@[simp] theorem State.openAtBoundary_line (s : State) (x : Box) : (s.openAtBoundary x).line = s.line := by
  unfold State.openAtBoundary
  dsimp only
  split <;> simp

theorem State.pathClear_line (s : State) :
    s.pathClear.line = { s.line with origin := s.line.track, distance := 0, stretchRing := [] } := by
  simp [State.pathClear, State.emptyWindows]

theorem State.takeSequence_motion (s : State) : s.takeSequence.line.motion = s.line.motion := by
  unfold State.takeSequence
  dsimp only
  split
  · rfl
  · rw [State.pathClear_line]; rfl

theorem State.takeStretch_motion (s : State) : s.takeStretch.line.motion = s.line.motion := by
  unfold State.takeStretch
  rw [State.postIf_line]; rfl

@[simp] theorem State.closeSegment_line (s : State) (x : Box) (stretch : Option Int) :
    (s.closeSegment x stretch).state.line = s.line := by
  simp [State.closeSegment, State.enterLiquor]

theorem State.closeAll_motion (s : State) : s.closeAll.2.2.line.motion = s.line.motion := by
  have h := s.takeSequence.takeStretch_motion.trans s.takeSequence_motion
  unfold State.closeAll
  dsimp only
  split <;> simpa using h

@[simp] theorem State.shiftAll_line (s : State) (recA recB : Option LaneRecord) :
    (s.shiftAll recA recB).line = s.line := by
  unfold State.shiftAll
  dsimp only
  rw [State.setMain_line]
  split <;> simp

@[simp] theorem State.gaugeArrival_line (s : State) : s.gaugeArrival.line = s.line := by
  unfold State.gaugeArrival
  split <;> rfl

@[simp] theorem State.markerArrival_line (s : State) (now replaced : Option MainRecord) :
    (s.markerArrival now replaced).line = s.line := by
  unfold State.markerArrival State.fireFault
  split
  · split <;> rfl
  · rfl

@[simp] theorem State.deliver_line (s : State) (slot : Option MainRecord) : (s.deliver slot).line = s.line := by
  unfold State.deliver
  split
  · rfl
  · split
    · dsimp only
      split
      · simp
      · rfl
    · rfl

theorem State.boundary_motion (s : State) : s.boundary.line.motion = s.line.motion := by
  simp [State.boundary, State.arriveAll, State.closeAll_motion]

@[simp] theorem State.testCut_line (s : State) (o : OpenBeam) : (s.testCut o).line = s.line := by
  unfold State.testCut
  split
  · split <;> rfl
  · rfl

@[simp] theorem State.testPoints_line (s : State) : s.testPoints.line = s.line := by
  unfold State.testPoints
  split
  · rfl
  · simp [State.postPoints]

@[simp] theorem State.testOverrun_line (s : State) : s.testOverrun.line = s.line := by
  unfold State.testOverrun
  split
  · rfl
  · split <;> rfl

@[simp] theorem State.woundMillimetre_line (s : State) : s.woundMillimetre.line = s.line := by
  unfold State.woundMillimetre
  split
  · rfl
  · split
    · simp
    · rfl

theorem State.trackMillimetre_motion (s : State) : s.trackMillimetre.line.motion = s.line.motion := by
  have hw : (({ s with line := { s.line with track := s.line.track + 1 } } : State).woundMillimetre).line.motion
      = s.line.motion := by rw [State.woundMillimetre_line]; rfl
  unfold State.trackMillimetre
  dsimp only
  split
  · exact hw
  · rw [State.boundary_motion]; exact hw

theorem State.trackMillimetres_motion (n : Nat) (s : State) :
    (State.trackMillimetres n s).line.motion = s.line.motion := by
  induction n generalizing s with
  | zero => rfl
  | succ n ih => rw [State.trackMillimetres, ih, State.trackMillimetre_motion]

/-- A TRACK PULSE ends with the motion its line-state work settled. -/
theorem trackPulse_motion (s : State) : (trackPulse s).line.motion = s.trackLineWork.line.motion :=
  State.trackMillimetres_motion _ _

theorem exec_trackPulse (s : State) (h : s.power = .running) : exec .trackPulse s = .next (trackPulse s) := by
  simp [exec, execTrackPulse, State.whenRunning, h]

/-! ### The statement about speed and LINE STATE -/

/-- Settles O19: the line-state work is the change of LINE STATE with the latch, and counted length keeps the motion. -/
theorem speedAndLineStateFollowPeriods : Obligations.SpeedAndLineStateFollowPeriods := by
  unfold Obligations.SpeedAndLineStateFollowPeriods
  intro s hrun started
  refine ⟨s.trackLineWork_stopped, trackPulse s, exec_trackPulse s hrun, fun hstop => ?_,
    fun last hmove hlast => ?_⟩
  · have hm := trackPulse_motion s
    rw [s.trackLineWork_stopped hstop, State.latchedAs_motion, State.changeLineState_line] at hm
    obtain ⟨hspeed, hstate, hperiods⟩ := LengthUnit.motion_eq.mp hm
    exact ⟨hstate, hspeed, hperiods⟩
  · intro joined ring
    have hring : pushRing Config.periodWindow s.line.periods (latchedPeriod s.line.timebase last) = ring := by
      simp [ring, joined, pushRing, latchedPeriod, Config.periodWindow]
    have hwork := s.trackLineWork_moving hmove hlast
    rw [hring] at hwork
    have hm := trackPulse_motion s
    rw [hwork, State.latchedAs_motion, State.paced_line] at hm
    obtain ⟨hspeed, hstate, hperiods⟩ := LengthUnit.motion_eq.mp hm
    rw [hspeed, hstate, hperiods]
    exact ⟨rfl, rfl, fun h => by rw [h]; rfl, fun h => by rw [h]; rfl, hwork⟩

/-! ### The stretch of a boundary (R11 to R13) -/

/-- The rounded quotient held to 999: inside the bound it is the nearest, an exact half going up; past it, 999. -/
theorem min_roundHalfUp_999 (n : Nat) {d : Nat} (hd : 0 < d) :
    (2 * n < 1999 * d → 2 * n < 2 * min (roundHalfUp n d) 999 * d + d
      ∧ 2 * min (roundHalfUp n d) 999 * d ≤ 2 * n + d)
    ∧ (1999 * d ≤ 2 * n → min (roundHalfUp n d) 999 = 999) := by
  obtain ⟨hup, hlow⟩ := roundHalfUp_bounds n hd
  generalize roundHalfUp n d = r at hup hlow ⊢
  constructor
  · intro h
    have hr : r ≤ 999 := by
      by_contra hlt
      have : 1000 * d ≤ r * d := Nat.mul_le_mul_right d (by omega)
      have : 2 * r * d = 2 * (r * d) := by ring
      omega
    rw [Nat.min_eq_left hr]
    exact ⟨hlow, hup⟩
  · intro h
    have hr : 999 ≤ r := by
      by_contra hlt
      have : r * d ≤ 998 * d := Nat.mul_le_mul_right d (by omega)
      have : 2 * r * d = 2 * (r * d) := by ring
      omega
    exact Nat.min_eq_right hr

/-- The figure of a track at least as long as its feed: not negative. -/
theorem stretchFigure_of_le {t f : Nat} (h : f ≤ t) :
    stretchFigure t f = (min (roundHalfUp ((t - f) * 10000) f) 999 : Nat) := if_pos h

/-- The figure of a track shorter than its feed: not positive. -/
theorem stretchFigure_of_lt {t f : Nat} (h : t < f) :
    stretchFigure t f = -((min (roundHalfUp ((f - t) * 10000) f) 999 : Nat) : Int) := if_neg (by omega)

/-- The bounds a nearest value within 999 of a quotient n ÷ f keeps, an exact half going away from zero. -/
def NearestWithin999 (n f q : Int) : Prop :=
  q ≤ 999 ∧ -999 ≤ q
    ∧ (2 * n < 1999 * f → -(1999 * f) < 2 * n →
        (0 ≤ n → 2 * n - f < 2 * q * f ∧ 2 * q * f ≤ 2 * n + f)
        ∧ (n ≤ 0 → 2 * n - f ≤ 2 * q * f ∧ 2 * q * f < 2 * n + f))
    ∧ (1999 * f ≤ 2 * n → q = 999)
    ∧ (2 * n ≤ -(1999 * f) → q = -999)

theorem NearestWithin999.neg {n f q : Int} (h : NearestWithin999 n f q) : NearestWithin999 (-n) f (-q) := by
  obtain ⟨hhigh, hlow, hnear, hmax, hmin⟩ := h
  have e : 2 * -q * f = -(2 * q * f) := by ring
  refine ⟨by omega, by omega, fun h1 h2 => ?_, fun h => ?_, fun h => ?_⟩
  · obtain ⟨hpos, hneg⟩ := hnear (by omega) (by omega)
    rw [e]
    exact ⟨fun hn => by have := hneg (by omega); omega, fun hn => by have := hpos (by omega); omega⟩
  · have := hmin (by omega); omega
  · have := hmax (by omega); omega

theorem nearestWithin999_roundHalfUp (n : Nat) {f : Nat} (hf : 0 < f) :
    NearestWithin999 n f (min (roundHalfUp n f) 999 : Nat) := by
  obtain ⟨hnear, hmax⟩ := min_roundHalfUp_999 n hf
  have hzero : n = 0 → min (roundHalfUp n f) 999 = 0 := by
    rintro rfl
    rw [roundHalfUp_zero f hf]; rfl
  have hle : min (roundHalfUp n f) 999 ≤ 999 := Nat.min_le_right _ _
  generalize min (roundHalfUp n f) 999 = q at hnear hmax hzero hle ⊢
  refine ⟨by omega, by omega, fun h1 h2 => ⟨fun _ => ?_, fun hn => ?_⟩, fun h => ?_, fun h => by omega⟩
  · obtain ⟨hlow, hup⟩ := hnear (by omega)
    have hlow' : (2 * n : Int) < 2 * q * f + f := by exact_mod_cast hlow
    have hup' : (2 * q * f : Int) ≤ 2 * n + f := by exact_mod_cast hup
    omega
  · have hn0 : n = 0 := by omega
    rw [hn0, hzero hn0]
    simp; omega
  · have := hmax (by omega); omega

/-- The stretch figure is the nearest value to (T − F) × 10,000 ÷ F within ±999 (R12). -/
theorem stretchFigure_nearest (t : Nat) {f : Nat} (hf : 0 < f) :
    NearestWithin999 (((t : Int) - f) * 10000) f (stretchFigure t f) := by
  rcases Nat.lt_or_ge t f with h | h
  · have hn : ((t : Int) - f) * 10000 = -(((f - t) * 10000 : Nat) : Int) := by push_cast [Nat.le_of_lt h]; ring
    rw [stretchFigure_of_lt h, hn]
    exact (nearestWithin999_roundHalfUp _ hf).neg
  · have hn : ((t : Int) - f) * 10000 = (((t - f) * 10000 : Nat) : Int) := by push_cast [h]; ring
    rw [stretchFigure_of_le h, hn]
    exact nearestWithin999_roundHalfUp _ hf

/-! ### STRETCH_HIGH in the record of a close (R13, R27) -/

theorem Cause.set_ne_zero (c : Cause) : c.set ≠ 0 := by cases c <;> decide

/-- A set shares a cause's own set exactly when it has the cause's bit. -/
theorem shares_set (x : CauseSet) (c : Cause) : shares x c.set = x.getLsbD c.bit := by
  have hand : x &&& c.set = if x.getLsbD c.bit then c.set else 0 := BitVec.and_twoPow x c.bit
  rw [shares, hand]
  cases x.getLsbD c.bit
  · rfl
  · simpa using c.set_ne_zero

theorem shares_or_set (x y : CauseSet) (c : Cause) : shares (x ||| y) c.set = (shares x c.set || shares y c.set) := by
  simp only [shares_set, BitVec.getLsbD_or]

theorem shares_zero (y : CauseSet) : shares 0 y = false := by simp [shares]

theorem shares_causeIf (p : Bool) (c d : Cause) : shares (causeIf p c) d.set = (p && decide (c = d)) := by
  cases p
  · exact shares_zero _
  · cases c <;> cases d <;> rfl

/-- The causes of the add-on hold no STRETCH_HIGH. -/
theorem State.addOnCauses_stretchHigh (s : State) (x : Box) :
    shares (s.addOnCauses x) Cause.stretchHigh.set = false := by
  unfold State.addOnCauses
  split
  · exact shares_zero _
  · simp [shares_or_set, shares_causeIf]

/-- The record of a close has STRETCH_HIGH from its segment or from its stretch. -/
theorem State.closeSegment_stretchHigh (s : State) (x : Box) (stretch : Option Int) :
    shares (s.closeSegment x stretch).record.causes Cause.stretchHigh.set
      = (shares (s.segment x).causes Cause.stretchHigh.set
        || shares (s.stretchCauses stretch) Cause.stretchHigh.set) := by
  let t := s.enterLiquor x (s.closeLiquor x)
  have hrecord : (s.closeSegment x stretch).record.causes
      = (s.segment x).causes ||| s.stretchCauses stretch ||| t.addOnCauses x := rfl
  rw [hrecord, shares_or_set, shares_or_set, State.addOnCauses_stretchHigh, Bool.or_false]

/-- A stretch calls for STRETCH_HIGH exactly when it is present and above the limit (R13). -/
theorem State.stretchCauses_stretchHigh (s : State) (stretch : Option Int) :
    shares (s.stretchCauses stretch) Cause.stretchHigh.set = true
      ↔ ∃ v, stretch = some v ∧ (s.style.bands.stretchLimit : Int) < v := by
  cases stretch with
  | none => simpa [State.stretchCauses] using shares_zero _
  | some v => simp [State.stretchCauses, shares_causeIf]

/-! ### The statement about the stretch -/

/-- The state with the feed counter placed in the ring and the FEED_SILENT detail as given (R11, R12). -/
def State.stretchPushed (s : State) (silent : Bool) : State :=
  s.withLine { s.line with
    feedSilent := silent
    stretchRing := pushRing Config.stretchWindow s.line.stretchRing s.line.feed }

/-- A request that does not newly set FEED_SILENT posts nothing. -/
theorem State.takeStretch_quiet (s : State) {silent : Bool} (h : s.line.feedSilentAfter = silent)
    (hq : silent = true → s.line.feedSilent = true) : s.takeStretch = s.stretchPushed silent := by
  have hnot : (silent && !s.line.feedSilent) = false := by cases silent <;> simp_all
  rw [State.takeStretch, h, hnot]
  rfl

/-- A request that newly sets FEED_SILENT posts INPUT_FAULT to every port. -/
theorem State.takeStretch_posting (s : State) (h : s.line.feedSilentAfter = true) (hq : s.line.feedSilent = false) :
    s.takeStretch = (s.stretchPushed true).post .inputFault := by
  rw [State.takeStretch, h, hq]
  rfl

section request
variable {u : LengthUnit}

theorem LengthUnit.stretch_nil (h : u.stretchRing = []) : u.stretch = none ∧ u.feedSilentAfter = u.feedSilent := by
  simp [LengthUnit.stretch, LengthUnit.feedSilentAfter, h]

theorem LengthUnit.stretch_silent {oldest : Long} {rest : List Long} (h : u.stretchRing = oldest :: rest)
    (hf : u.feedTravel oldest = 0) : u.stretch = none ∧ u.feedSilentAfter = true := by
  simp [LengthUnit.stretch, LengthUnit.feedSilentAfter, h, hf]

theorem LengthUnit.stretch_present {oldest : Long} {rest : List Long} (h : u.stretchRing = oldest :: rest)
    (hf : 0 < u.feedTravel oldest) :
    u.stretch = some (stretchFigure (Config.segmentLength * (rest.length + 1)) (u.feedTravel oldest))
      ∧ u.feedSilentAfter = false := by
  simp [LengthUnit.stretch, LengthUnit.feedSilentAfter, h, Nat.ne_of_gt hf]

end request

/-- Settles O22: the request case by case along the ring, the rounding, and the causes of the close. -/
theorem stretchIsRoundedAndMarkedAboveLimit : Obligations.StretchIsRoundedAndMarkedAboveLimit := by
  unfold Obligations.StretchIsRoundedAndMarkedAboveLimit
  refine ⟨fun s => ?_, fun t f hf => stretchFigure_nearest t hf, fun s x stretch => ?_⟩
  · intro pushed
    refine ⟨fun hring => ?_, fun oldest rest hring => ⟨fun hf => ?_, fun hf => ?_⟩⟩
    · obtain ⟨habsent, hdetail⟩ := LengthUnit.stretch_nil hring
      exact ⟨habsent, s.takeStretch_quiet hdetail id⟩
    · obtain ⟨habsent, hdetail⟩ := LengthUnit.stretch_silent hring hf
      refine ⟨habsent, ?_⟩
      cases hset : s.line.feedSilent with
      | true => exact s.takeStretch_quiet hdetail fun _ => hset
      | false => exact s.takeStretch_posting hdetail hset
    · obtain ⟨hpresent, hdetail⟩ := LengthUnit.stretch_present hring hf
      exact ⟨hpresent, s.takeStretch_quiet hdetail nofun⟩
  · refine ⟨rfl, fun v hv hlt => ?_, fun hle => ?_⟩
    · rw [s.closeSegment_stretchHigh, (s.stretchCauses_stretchHigh stretch).mpr ⟨v, hv, hlt⟩, Bool.or_true]
    · have hnone : shares (s.stretchCauses stretch) Cause.stretchHigh.set = false := by
        rw [Bool.eq_false_iff, Ne, s.stretchCauses_stretchHigh stretch]
        rintro ⟨v, hv, hlt⟩
        exact absurd (hle v hv) (by omega)
      rw [s.closeSegment_stretchHigh, hnone, Bool.or_false]

end Sys2Proof.Machine
end

section
/-! The sheet path: what a path clear leaves, what READ SEGMENT answers for each lane and position, and what a merge
makes of its parts; and the proofs of the statements about them. -/

namespace Sys2Proof.Machine

/-! ### Path clear (R14, R35, R36) -/

/-- The open segment of a box at an opening without SOAK: no pulses, the causes standing for a box in use (R22). -/
def State.reopened (s : State) (x : Box) : OpenSegment := ⟨0, if s.inUse x then s.standingCauses x else 0⟩

/-- A box in use has its lane, so an opening need not ask for the lane as well. -/
theorem State.openSegment_zero (s : State) (x : Box) : s.openSegment x 0 = s.setSegment x (s.reopened x) := by
  rw [State.openSegment_eq, State.reopened]
  cases hlane : s.laneExists x <;> simp [State.inUse, hlane]

/-- In STOPPED no box stands in CRAWL: only the depth condition gives a cause at an opening. -/
theorem State.standingCauses_stopped {s : State} (h : s.line.lineState = .stopped) (x : Box) :
    s.standingCauses x
      = causeIf ((s.roll x).depth == .out) .lift ||| causeIf ((s.roll x).depth == .unknown) .depthUnknown := by
  simp [State.standingCauses, h, causeIf]

/-- A path clear as a whole next state: the path, three fields of the Length Counter Unit and the windows. -/
theorem State.pathClear_eq (s : State) :
    s.pathClear = { s with
      path := {
        lanes := ⟨List.replicate s.geometry.depthA none, List.replicate s.geometry.depthB none⟩
        main := List.replicate s.geometry.depthMain none
        segments := ⟨s.reopened .a, s.reopened .b⟩
        sequence := 0 }
      line := { s.line with origin := s.line.track, distance := 0, stretchRing := [] }
      addOn := { s.addOn with windows := ⟨[], []⟩ } } := by
  unfold State.pathClear
  dsimp only
  rw [State.openSegment_zero, State.openSegment_zero]
  rfl

theorem State.grant_pathClear (s : State) (p : Port) : (s.grant p).pathClear = s.pathClear.grant p := by
  rw [State.pathClear_eq, State.pathClear_eq]
  rfl

theorem permitted_clearPath (r : Role) : permitted r .clearPath = true ↔ r = .line ∨ r = .station := by
  cases r <;> decide

theorem exec_clearPath_moving {s : State} {h : Hdr} (ha : s.admits h .clearPath) (hmove : s.line.lineState ≠ .stopped) :
    exec (.clearPath h) s = .next (s.replied h .notStopped []) :=
  run_plain ha (if_neg hmove)

theorem exec_clearPath_stopped {s : State} {h : Hdr} (ha : s.admits h .clearPath) (hstop : s.line.lineState = .stopped) :
    exec (.clearPath h) s = .next (s.pathClear.replied h .ok []) :=
  run_done ha ((if_pos hstop).trans (by rw [State.grant_pathClear]))

/-- Settles O23: outside STOPPED the refusal, in STOPPED the path clear as a whole next state. -/
theorem clearPathForgetsTheSheet : Obligations.ClearPathForgetsTheSheet := by
  unfold Obligations.ClearPathForgetsTheSheet
  refine ⟨permitted_clearPath, fun h s ha => ⟨exec_clearPath_moving ha, fun hstop => ?_⟩⟩
  rw [exec_clearPath_stopped ha hstop, State.pathClear_eq]
  simp only [State.reopened, State.standingCauses_stopped hstop]

/-! ### READ SEGMENT (R40) -/

/-- The bytes of the record at a position of a lane, absent for an untracked position. -/
def State.recordBytes (s : State) (p : Nat) : Lane → Option (List Byte)
  | .a => (slotAt (s.lane .a) p).map LaneRecord.bytes
  | .b => (slotAt (s.lane .b) p).map LaneRecord.bytes
  | .main => (slotAt s.path.main p).map MainRecord.bytes

@[simp] theorem State.grant_depth (s : State) (p : Port) (l : Lane) : (s.grant p).depth l = s.depth l := by
  cases l <;> rfl

@[simp] theorem State.grant_recordBytes (s : State) (p : Port) (n : Nat) (l : Lane) :
    (s.grant p).recordBytes n l = s.recordBytes n l := by
  cases l <;> rfl

theorem laneOf_eq_none {b : Byte} (h : 2 < b.toNat) : laneOf b = none := by
  have hne : ∀ c : Byte, c.toNat ≤ 2 → b ≠ c := by rintro c hc rfl; omega
  rw [laneOf, if_neg (hne 0 (by decide)), if_neg (hne 1 (by decide)), if_neg (hne 2 (by decide))]

section readSegment
variable {s : State} {h : Hdr} {lane : Byte} {position : Word} {l : Lane}

theorem exec_readSegment_unnamed (ha : s.admits h .readSegment) (hl : laneOf lane = none) :
    exec (.readSegment h lane position) s = .next (s.replied h .range []) :=
  run_plain ha (by simp only [readSegmentWork, hl])

theorem exec_readSegment_beyond (ha : s.admits h .readSegment) (hl : laneOf lane = some l)
    (hd : s.depth l ≤ position.toNat) :
    exec (.readSegment h lane position) s = .next (s.replied h .range []) :=
  run_plain ha (by simp only [readSegmentWork, hl, State.grant_depth, if_pos hd])

/-- Inside the lane's depth the slot alone decides: a record is read out, an untracked position gives NONE. -/
theorem readSegmentWork_within (hl : laneOf lane = some l) (hd : position.toNat < s.depth l) :
    readSegmentWork lane position s = (s.recordBytes position.toNat l).elim (.plain s .none) (.done s .ok) := by
  simp only [readSegmentWork, hl, if_neg (Nat.not_le.mpr hd)]
  cases l
  all_goals
    simp only [State.recordBytes]
    split
    · next _ hdata => rw [hdata]; rfl
    · next hdata => rw [hdata]; rfl

theorem exec_readSegment_within (ha : s.admits h .readSegment) (hl : laneOf lane = some l)
    (hd : position.toNat < s.depth l) :
    exec (.readSegment h lane position) s
      = .next ((s.recordBytes position.toNat l).elim (s.replied h .none []) (s.replied h .ok)) := by
  have hwork := readSegmentWork_within (s := s.grant h.port) hl (by rwa [State.grant_depth])
  rw [State.grant_recordBytes] at hwork
  cases hbytes : s.recordBytes position.toNat l with
  | none => exact run_plain ha (by rw [hwork, hbytes]; rfl)
  | some bytes => exact run_done ha (by rw [hwork, hbytes]; rfl)

end readSegment

/-- Settles O24: a byte that names no lane, then for each lane a position beyond its depth and one inside. -/
theorem readSegmentReturnsTheRecord : Obligations.ReadSegmentReturnsTheRecord := by
  unfold Obligations.ReadSegmentReturnsTheRecord
  intro h lane position s ha outcome p
  refine ⟨fun hl => exec_readSegment_unnamed ha (laneOf_eq_none hl),
    fun hl hd => exec_readSegment_beyond (l := .a) ha (congrArg laneOf hl) hd,
    fun hl hd => exec_readSegment_beyond (l := .b) ha (congrArg laneOf hl) hd,
    fun hl hd => exec_readSegment_beyond (l := .main) ha (congrArg laneOf hl) hd,
    fun hl hd => (exec_readSegment_within (l := .a) ha (congrArg laneOf hl) hd).trans ?_,
    fun hl hd => (exec_readSegment_within (l := .b) ha (congrArg laneOf hl) hd).trans ?_,
    fun hl hd => (exec_readSegment_within (l := .main) ha (congrArg laneOf hl) hd).trans ?_⟩
  · rw [State.recordBytes]
    cases slotAt (s.lane .a) position.toNat <;> rfl
  · rw [State.recordBytes]
    cases slotAt (s.lane .b) position.toNat <;> rfl
  · rw [State.recordBytes]
    cases slotAt s.path.main position.toNat <;> rfl

/-! ### The merge (R30, R31, R57, R58) -/

/-- The record a merge makes of two parts, `lead` being the part that gives its style. -/
def State.mergedRecord (s : State) (a b : Option LaneRecord) (lead : LaneRecord) : MainRecord :=
  let addOn := combinedAddOn s.laneBExists a b
  { sequence := s.path.sequence
    seqA := a.map LaneRecord.sequence
    seqB := b.map LaneRecord.sequence
    style := lead.style
    addOn := addOn
    moisture := none
    dwell := max (partDwell a) (partDwell b)
    causes := partCauses a ||| partCauses b ||| untrackedPart s.laneBExists a b
      ||| bandCause (s.settings.styles.get lead.style).bands.addOn .addOnLow .addOnHigh addOn }

theorem State.merge_none (s : State) : s.merge none none = none := rfl

theorem State.merge_some (s : State) {a b : Option LaneRecord} {lead : LaneRecord} (h : a.or b = some lead) :
    s.merge a b = some (s.mergedRecord a b lead) := by
  simp only [State.merge, h]
  rfl

/-- UNTRACKED_PART is asked for where lane B exists and a part is untracked. -/
theorem untrackedPart_eq (laneB : Bool) (a b : Option LaneRecord) :
    untrackedPart laneB a b = if laneB = true ∧ (a = none ∨ b = none) then Cause.untrackedPart.set else 0 := by
  simp [untrackedPart, causeIf]

/-- The band's causes stand exactly for a value that is present and outside it. -/
theorem bandCause_eq (band : Band) (low high : Cause) (value : Option Nat) :
    bandCause band low high value
      = (if value.any (fun v => decide (v < band.low)) = true then low.set else 0)
        ||| (if value.any (fun v => decide (band.high < v)) = true then high.set else 0) := by
  cases value with
  | none => simp [bandCause]
  | some v => rfl

theorem shares_bandCause {low high c : Cause} (hlow : low ≠ c) (hhigh : high ≠ c) (band : Band) (value : Option Nat) :
    shares (bandCause band low high value) c.set = false := by
  cases value with
  | none => exact shares_zero _
  | some v => simp [bandCause, shares_or_set, shares_causeIf, hlow, hhigh]

/-- A set that lies within another lies within every union with it. -/
theorem and_or_eq_of_and_eq {x y : CauseSet} (h : x &&& y = x) (z : CauseSet) : x &&& (y ||| z) = x := by
  rw [BitVec.and_or_distrib_left, h]
  ext i
  rw [BitVec.getElem_or, BitVec.getElem_and]
  exact sup_inf_self

section merged
variable (s : State) (a b : Option LaneRecord) (lead : LaneRecord)

/-- UNTRACKED_PART stands in a merged record for its own reason or carried over from a part. -/
theorem State.mergedRecord_untrackedPart :
    shares (s.mergedRecord a b lead).causes Cause.untrackedPart.set
      = (shares (partCauses a) Cause.untrackedPart.set || shares (partCauses b) Cause.untrackedPart.set
        || (s.laneBExists && (a.isNone || b.isNone))) := by
  simp [State.mergedRecord, shares_or_set, untrackedPart, shares_causeIf,
    shares_bandCause (low := .addOnLow) (high := .addOnHigh) (c := .untrackedPart)]

variable {a b}

/-- The larger dwell is no less than each part's, and the union of causes holds each part's. -/
theorem State.mergedRecord_keeps_part {r : LaneRecord} (h : a = some r ∨ b = some r) :
    r.dwell ≤ (s.mergedRecord a b lead).dwell
      ∧ r.causes &&& (s.mergedRecord a b lead).causes = r.causes := by
  have hparts : r.causes &&& (partCauses a ||| partCauses b) = r.causes := by
    rcases h with rfl | rfl
    · exact and_or_eq_of_and_eq BitVec.and_self _
    · rw [BitVec.or_comm]
      exact and_or_eq_of_and_eq BitVec.and_self _
  refine ⟨?_, and_or_eq_of_and_eq (and_or_eq_of_and_eq hparts _) _⟩
  rcases h with rfl | rfl
  · exact Nat.le_max_left ..
  · exact Nat.le_max_right ..

end merged

/-- The causes of a part share nothing that its record, where there is one, does not. -/
theorem shares_partCauses {part : Option LaneRecord} {c : CauseSet}
    (h : ∀ r, part = some r → shares r.causes c = false) : shares (partCauses part) c = false := by
  cases part with
  | none => exact shares_zero _
  | some r => exact h r rfl

/-- Settles O27: no part gives no record; otherwise each clause is read off the merged record. -/
theorem mergeJoinsItsParts : Obligations.MergeJoinsItsParts := by
  unfold Obligations.MergeJoinsItsParts
  intro s a b
  refine ⟨fun ha hb => by rw [ha, hb, State.merge_none], fun lead hlead => ?_⟩
  refine ⟨s.mergedRecord a b lead, s.merge_some hlead, rfl, rfl, rfl, rfl, rfl, rfl, ?causes,
    fun r hr => s.mergedRecord_keeps_part lead hr, ?dwell, ?marked, ?unmarked⟩
  case causes =>
    dsimp only
    rw [← untrackedPart_eq, BitVec.or_assoc, ← bandCause_eq]
    rfl
  case dwell => exact max_choice (partDwell a) (partDwell b)
  case marked =>
    intro hlane hpart
    rw [State.mergedRecord_untrackedPart, hlane]
    rcases hpart with rfl | rfl <;> simp
  case unmarked =>
    intro hreason hparts
    rw [State.mergedRecord_untrackedPart, shares_partCauses fun r hr => hparts r (.inl hr),
      shares_partCauses fun r hr => hparts r (.inr hr)]
    rcases hreason with hlane | ⟨ha, hb⟩
    · simp [hlane]
    · simp [Option.isSome_iff_ne_none, ha, hb]

end Sys2Proof.Machine
end

section
/-! Size add-on and the PROCESS commands: what REPORT BOX and ZONE HEAT store and answer, the add-on of a close from the
pickup window and the report, and the combined add-on of a merge; and the proofs of the statements about them. -/

namespace Sys2Proof.Machine

theorem permitted_reportBox (r : Role) : permitted r .reportBox = true ↔ r = .process := beq_iff_eq

theorem permitted_zoneHeat (r : Role) : permitted r .zoneHeat = true ↔ r = .process := beq_iff_eq

/-! ### REPORT BOX (R46) -/

/-- Where the range is not empty, clamping is bounding above and then below. -/
theorem clamp_eq {low high : Nat} (h : low ≤ high) (x : Nat) : clamp low high x = max low (min x high) := by
  unfold clamp
  split_ifs <;> omega

@[simp] theorem State.grant_existingBox (s : State) (p : Port) (b : Byte) :
    (s.grant p).existingBox b = s.existingBox b := rfl

theorem State.grant_setReport (s : State) (p : Port) (x : Box) (r : Report) :
    (s.grant p).setReport x r = (s.setReport x r).grant p := rfl

section reportBox
variable {s : State} {h : Hdr} {box : Byte} {concentration density : Word}

theorem exec_reportBox_unnamed (ha : s.admits h .reportBox) (hb : s.existingBox box = none) :
    exec (.reportBox h box concentration density) s = .next (s.replied h .range []) :=
  run_plain ha (by simp only [reportBoxWork, State.grant_existingBox, hb])

theorem exec_reportBox_named {x : Box} (ha : s.admits h .reportBox) (hb : s.existingBox box = some x) :
    exec (.reportBox h box concentration density) s
      = .next ((s.setReport x ⟨some (min concentration.toNat 300), some (clamp 900 1400 density.toNat), .fresh,
          some 0⟩).replied h
        (if min concentration.toNat 300 = concentration.toNat ∧ clamp 900 1400 density.toNat = density.toNat
          then .ok else .clamped)
        (u16 (min concentration.toNat 300) ++ u16 (clamp 900 1400 density.toNat))) :=
  run_done ha (by simp only [reportBoxWork, State.grant_existingBox, hb, State.grant_setReport])

end reportBox

/-! ### ZONE HEAT (R71) -/

/-- The code of the zone a byte names is that byte. -/
theorem u8_code_of_zoneOf {b : Byte} {z : Zone} (h : zoneOf b = some z) : u8 z.code = [b] := by
  have hcode : z.code = b.toNat := by simpa using List.find?_some h
  rw [u8, hcode, BitVec.ofNat_toNat, BitVec.setWidth_eq]

/-- A setting of at most 1 is HEATED or UNHEATED. -/
theorem heat_setting_cases {b : Byte} (h : b.toNat ≤ 1) : b = 0 ∨ b = 1 := by bv_omega

theorem heatOf_of_le {b : Byte} (h : b.toNat ≤ 1) : heatOf b = some (decide (b = 0)) := by
  rcases heat_setting_cases h with rfl | rfl <;> rfl

theorem u8_heatCode {b : Byte} (h : b.toNat ≤ 1) : u8 (heatCode (decide (b = 0))) = [b] := by
  rcases heat_setting_cases h with rfl | rfl <;> rfl

theorem heatOf_eq_none {b : Byte} (h : 1 < b.toNat) : heatOf b = none := by
  have hne : ∀ c : Byte, c.toNat ≤ 1 → b ≠ c := by rintro c hc rfl; omega
  rw [heatOf, if_neg (hne 0 (by decide)), if_neg (hne 1 (by decide))]

theorem State.grant_setZone (s : State) (p : Port) (z : Zone) (c : ZoneChannel) :
    (s.grant p).setZone z c = (s.setZone z c).grant p := rfl

theorem zoneHeatWork_refused {zone setting : Byte} (h : zoneOf zone = none ∨ heatOf setting = none) (s : State) :
    zoneHeatWork zone setting s = .plain s .range := by
  rcases h with hz | hs
  · simp only [zoneHeatWork, hz]
  · cases hz : zoneOf zone <;> simp only [zoneHeatWork, hz, hs]

section zoneHeat
variable {s : State} {h : Hdr} {zone setting : Byte}

theorem exec_zoneHeat_refused (ha : s.admits h .zoneHeat) (hr : zoneOf zone = none ∨ 1 < setting.toNat) :
    exec (.zoneHeat h zone setting) s = .next (s.replied h .range []) :=
  run_plain ha (zoneHeatWork_refused (hr.imp_right heatOf_eq_none) _)

theorem exec_zoneHeat_set {z : Zone} (ha : s.admits h .zoneHeat) (hz : zoneOf zone = some z)
    (hs : setting.toNat ≤ 1) :
    exec (.zoneHeat h zone setting) s
      = .next ((s.setZone z { s.monitor.zones.get z with heated := decide (setting = 0) }).replied h .ok
          ([zone, setting] ++ u16 (s.monitor.zones.get z).accumulator)) :=
  run_done ha (by
    simp only [zoneHeatWork, hz, heatOf_of_le hs, u8_code_of_zoneOf hz, u8_heatCode hs, State.grant_monitor,
      State.grant_setZone, List.cons_append, List.nil_append])

end zoneHeat

/-- Settles O29: each command's refusal and its completion as a whole next state. -/
theorem processReportsAreStored : Obligations.ProcessReportsAreStored := by
  unfold Obligations.ProcessReportsAreStored
  refine ⟨fun r => ⟨permitted_reportBox r, permitted_zoneHeat r⟩,
    fun h box concentration density s ha => ⟨exec_reportBox_unnamed ha, fun x hx => ?_⟩,
    fun h zone setting s ha => ⟨exec_zoneHeat_refused ha, fun z hz hs => exec_zoneHeat_set ha hz hs⟩⟩
  rw [exec_reportBox_named ha hx, clamp_eq (by decide)]

/-! ### The lane add-on of a close (R54 to R56) -/

/-- A window is short exactly when twice its entries are fewer than the window size. -/
theorem windowShort_eq (window : List Nat) (size : Nat) :
    windowShort window size = decide (2 * window.length < size) := by
  unfold windowShort ceilDiv
  congr 1
  exact propext (by omega)

section close
variable {s : State} {x : Box}

theorem State.laneAddOn_withoutEnds (h : s.style.yarn.ends.get x = 0) :
    s.laneAddOn x = none ∧ s.addOnCauses x = 0 :=
  ⟨if_pos (.inl h), if_pos h⟩

/-- In UNKNOWN no values are used, so no add-on is formed. -/
theorem State.laneAddOn_unknown (h : (s.report x).state = .unknown) : s.laneAddOn x = none := by
  simp [State.laneAddOn, Report.usedConcentration, h]

theorem State.addOnCauses_unknown (he : s.style.yarn.ends.get x ≠ 0) (h : (s.report x).state = .unknown) :
    s.addOnCauses x = Cause.concUnknown.set ||| causeIf (windowShort (s.window x) s.style.yarn.window) .windowShort := by
  simp [State.addOnCauses, he, h, causeIf]

/-- In FRESH and STALE the values held are used, and a short window alone leaves the add-on absent. -/
theorem State.laneAddOn_known {c d : Nat} (he : s.style.yarn.ends.get x ≠ 0) (h : (s.report x).state ≠ .unknown)
    (hc : (s.report x).concentration = some c) (hd : (s.report x).density = some d) :
    s.laneAddOn x = if windowShort (s.window x) s.style.yarn.window then none
      else some (addOnFigure (s.window x) d c (s.style.yarn.ends.get x) s.style.yarn.tex) := by
  simp only [State.laneAddOn, Report.usedConcentration, Report.usedDensity, if_neg h, hc, hd, he, false_or]

theorem State.addOnCauses_known (he : s.style.yarn.ends.get x ≠ 0) (h : (s.report x).state ≠ .unknown) :
    s.addOnCauses x = causeIf ((s.report x).state == .stale) .concStale
      ||| causeIf (windowShort (s.window x) s.style.yarn.window) .windowShort := by
  simp [State.addOnCauses, he, h, causeIf]

end close

/-! ### The combined add-on of a merge (R57) -/

/-- The mean of parts weighted by their ends, absent without a part or when one has no add-on: what R57
forms from the contributing parts. -/
def meanAddOn (parts : List LaneRecord) : Option Nat :=
  if parts = [] then none else (weightedAddOn parts).map fun t => roundHalfUp t (parts.map LaneRecord.ends).sum

theorem combinedAddOn_untracked {a b : Option LaneRecord} (h : a = none ∨ b = none) : combinedAddOn true a b = none :=
  if_pos ⟨rfl, by simpa using h⟩

theorem combinedAddOn_tracked (a b : LaneRecord) :
    combinedAddOn true (some a) (some b) = meanAddOn (contributing (some a) ++ contributing (some b)) := rfl

/-- Without lane B the part of lane A alone counts. -/
theorem combinedAddOn_alone (a : LaneRecord) (b : Option LaneRecord) :
    combinedAddOn false (some a) b = meanAddOn (contributing (some a)) := by
  simp [combinedAddOn, meanAddOn]

section parts
variable {r q : LaneRecord}

theorem contributing_withoutEnds (h : r.ends = 0) : contributing (some r) = [] := by
  simp [contributing, h]

theorem contributing_withEnds (h : 0 < r.ends) : contributing (some r) = [r] := by
  simp [contributing, Nat.one_le_iff_ne_zero, Nat.ne_of_gt h]

/-- The mean of one part with ends is that part's add-on. -/
theorem meanAddOn_one (h : 0 < r.ends) : meanAddOn [r] = r.addOn := by
  cases hv : r.addOn with
  | none => simp [meanAddOn, weightedAddOn, hv]
  | some v => simp [meanAddOn, weightedAddOn, hv, roundHalfUp_mul_self v h]

theorem meanAddOn_contributing (r : LaneRecord) :
    meanAddOn (contributing (some r)) = if r.ends = 0 then none else r.addOn := by
  split
  · next h => rw [contributing_withoutEnds h]; rfl
  · next h => rw [contributing_withEnds (Nat.pos_of_ne_zero h), meanAddOn_one (Nat.pos_of_ne_zero h)]

theorem meanAddOn_two {v w : Nat} (hv : r.addOn = some v) (hw : q.addOn = some w) :
    meanAddOn [r, q] = some (roundHalfUp (v * r.ends + w * q.ends) (r.ends + q.ends)) := by
  simp [meanAddOn, weightedAddOn, hv, hw]

theorem meanAddOn_two_absent (h : r.addOn = none ∨ q.addOn = none) : meanAddOn [r, q] = none := by
  rcases h with hr | hq
  · simp [meanAddOn, weightedAddOn, hr]
  · cases hr : r.addOn <;> simp [meanAddOn, weightedAddOn, hr, hq]

end parts

/-- The combined add-on of two parts that both contribute is their mean. -/
theorem combinedAddOn_bothContribute {a b : LaneRecord} (ha : 0 < a.ends) (hb : 0 < b.ends) :
    combinedAddOn true (some a) (some b) = meanAddOn [a, b] := by
  rw [combinedAddOn_tracked, contributing_withEnds ha, contributing_withEnds hb]
  rfl

/-- Settles O30: the close by ends and report state, the merge by which parts contribute. -/
theorem addOnFollowsWindowAndReport : Obligations.AddOnFollowsWindowAndReport := by
  unfold Obligations.AddOnFollowsWindowAndReport
  constructor
  · intro s x c d e w short
    have hshort : windowShort (s.window x) s.style.yarn.window = short := windowShort_eq ..
    refine ⟨State.laneAddOn_withoutEnds, fun he hu => ?unknown, fun he hk hc hd => ?known⟩
    case unknown => exact ⟨State.laneAddOn_unknown hu, hshort ▸ State.addOnCauses_unknown he hu⟩
    case known =>
      exact ⟨hshort ▸ State.addOnCauses_known he hk, hshort ▸ State.laneAddOn_known he hk hc hd⟩
  · intro a b
    refine ⟨combinedAddOn_untracked (.inl rfl), combinedAddOn_untracked (.inr rfl), combinedAddOn_untracked (.inl rfl),
      ?alone, fun hb => ?onlyA, fun ha hb => ?onlyB, fun v w ha hb hv hw => ?both, fun ha hb hnone => ?absent⟩
    case alone => rw [combinedAddOn_alone, meanAddOn_contributing]
    case onlyA =>
      rw [combinedAddOn_tracked, contributing_withoutEnds hb, List.append_nil, meanAddOn_contributing]
    case onlyB =>
      rw [combinedAddOn_tracked, contributing_withoutEnds ha, List.nil_append, contributing_withEnds hb,
        meanAddOn_one hb]
    case both => rw [combinedAddOn_bothContribute ha hb, meanAddOn_two hv hw]
    case absent => rw [combinedAddOn_bothContribute ha hb, meanAddOn_two_absent hnone]

end Sys2Proof.Machine
end

section
/-! The Condition Monitor: what an expiry of the interval timer makes of soak channels, zones and records, what a sample
makes of the gauge, and the gauge and marker arrivals of a boundary; and the proofs of the statements about them. -/

namespace Sys2Proof.Machine

/-! ### Marking the records of a lane (R21) -/

/-- A lane with a function applied to the records at the positions chosen; untracked slots stay. -/
def markWhere {α : Type} (f : α → α) (p : Nat → Bool) (l : List (Option α)) : List (Option α) :=
  l.mapIdx fun i slot => slot.map fun r => if p i then f r else r

section markWhere
variable {α : Type} {f : α → α} {p q : Nat → Bool}

theorem markWhere_getElem? (l : List (Option α)) (i : Nat) :
    (markWhere f p l)[i]? = l[i]?.map fun slot => slot.map fun r => if p i then f r else r :=
  List.getElem?_mapIdx

theorem markWhere_nowhere (h : ∀ i, p i = false) (l : List (Option α)) : markWhere f p l = l := by
  apply List.ext_getElem?
  simp [markWhere_getElem?, h]

/-- Marking twice marks wherever either asks for it, where a second mark adds nothing to a first. -/
theorem markWhere_markWhere (h : ∀ r, f (f r) = f r) (l : List (Option α)) :
    markWhere f p (markWhere f q l) = markWhere f (fun i => q i || p i) l := by
  apply List.ext_getElem?
  intro i
  simp only [markWhere_getElem?, Option.map_map]
  cases hq : q i <;> cases hp : p i <;> simp [Function.comp_def, h]

/-- A function applied over a range marks the positions of the range. -/
theorem mapRange_eq_markWhere (range : ZoneRange) (l : List (Option α)) :
    mapRange range f l = markWhere f (fun i => decide (range.first ≤ i ∧ i ≤ range.last)) l := by
  apply List.ext_getElem?
  intro i
  rw [mapRange_getElem?, markWhere_getElem?]
  by_cases hi : range.first ≤ i ∧ i ≤ range.last <;> simp [hi]

end markWhere

theorem State.zoneHolds_absent {s : State} {z : Zone} (h : s.zoneRange z = none) (i : Nat) :
    s.zoneHolds z i = false := by
  rw [State.zoneHolds, h]
  rfl

theorem State.zoneHolds_present {s : State} {z : Zone} {range : ZoneRange} (h : s.zoneRange z = some range) (i : Nat) :
    s.zoneHolds z i = decide (range.first ≤ i ∧ i ≤ range.last) := by
  rw [State.zoneHolds, h]
  rfl

/-- Adding to a zone marks lane A or B where the zone is that lane's. -/
theorem State.addToZone_lane (s : State) (z : Zone) (c : CauseSet) (d : Nat) (x : Box) :
    (s.addToZone z c d).lane x
      = markWhere (·.add c d) (fun i => decide (z = laneZone x) && s.zoneHolds z i) (s.lane x) := by
  cases hr : s.zoneRange z with
  | none => simp only [State.addToZone, hr, State.zoneHolds_absent hr, Bool.and_false, markWhere_nowhere, implies_true]
  | some range =>
    simp only [State.addToZone, hr, State.addToRange, mapRange_eq_markWhere, State.zoneHolds_present hr]
    cases z <;> cases x <;> simp [markWhere_nowhere, State.lane_setLane_ne] <;> rfl

/-- Adding to a zone marks the main lane where the zone is one of the main zones. -/
theorem State.addToZone_main (s : State) (z : Zone) (c : CauseSet) (d : Nat) :
    (s.addToZone z c d).path.main
      = markWhere (·.add c d) (fun i => decide (z ∈ mainZones) && s.zoneHolds z i) s.path.main := by
  cases hr : s.zoneRange z with
  | none => simp only [State.addToZone, hr, State.zoneHolds_absent hr, Bool.and_false, markWhere_nowhere, implies_true]
  | some range =>
    simp only [State.addToZone, hr, State.addToRange, mapRange_eq_markWhere, State.zoneHolds_present hr]
    cases z <;> simp [markWhere_nowhere]

theorem addDwell_zero_addDwell_zero (dwell : Nat) : addDwell (addDwell dwell 0) 0 = addDwell dwell 0 :=
  (min_assoc ..).trans (congrArg _ (min_self _))

theorem LaneRecord.add_add_causes (c : CauseSet) (r : LaneRecord) : (r.add c 0).add c 0 = r.add c 0 := by
  simp [LaneRecord.add, addDwell_zero_addDwell_zero, BitVec.or_assoc]

theorem MainRecord.add_add_causes (c : CauseSet) (r : MainRecord) : (r.add c 0).add c 0 = r.add c 0 := by
  simp [MainRecord.add, addDwell_zero_addDwell_zero, BitVec.or_assoc]

/-! ### Flags posted to every port (R144) -/

/-- The ports with flags added to every event set. -/
def withEvents (ports : PerPort PortUnit) (e : EventSet) : PerPort PortUnit :=
  ports.map fun u => { u with events := u.events ||| e }

@[simp] theorem withEvents_get (ports : PerPort PortUnit) (e : EventSet) (p : Port) :
    (withEvents ports e).get p = { ports.get p with events := (ports.get p).events ||| e } :=
  PerPort.get_map ..

theorem withEvents_zero (ports : PerPort PortUnit) : withEvents ports 0 = ports :=
  PerPort.ext_get fun p => by simp

theorem withEvents_withEvents (ports : PerPort PortUnit) (d e : EventSet) :
    withEvents (withEvents ports d) e = withEvents ports (d ||| e) :=
  PerPort.ext_get fun p => by simp [BitVec.or_assoc]

/-- The set holding a flag when a condition holds, else the empty set. -/
def flagIf (p : Bool) (f : Flag) : EventSet := if p then f.set else 0

theorem flagIf_or_flagIf (p q : Bool) (f : Flag) : flagIf p f ||| flagIf q f = flagIf (p || q) f := by
  cases p <;> cases q <;> simp [flagIf]

theorem flagIf_getLsbD (p : Bool) (f : Flag) (i : Nat) : (flagIf p f).getLsbD i = true ↔ i = f.bit ∧ p = true := by
  have hbit : f.bit < 16 := by cases f <;> decide
  cases p
  · simp [flagIf]
  · simp [flagIf, Flag.set, BitVec.getLsbD_twoPow, hbit, eq_comm]

theorem State.postIf_flagIf (s : State) (c : Bool) (f : Flag) :
    s.postIf c f = { s with ports := withEvents s.ports (flagIf c f) } := s.postIf_eq c f

/-! ### The soak channels at an interval (R66, R67) -/

/-- Whether a box's soak timer advances at an interval. -/
def State.soakCounts (s : State) (x : Box) : Bool := s.inUse x && (s.soak x).immersed && !(s.soak x).crossed

/-- Whether a box's soak timer crosses the soak limit at an interval. -/
def State.soakCrosses (s : State) (x : Box) : Bool :=
  s.soakCounts x && decide (10 * s.style.boxes.soakLimit ≤ (s.soak x).timer + 1)

/-- A box's soak channel after an interval. -/
def State.soakAfter (s : State) (x : Box) : SoakChannel :=
  if s.soakCrosses x then { s.soak x with
    timer := (s.soak x).timer + 1, crossed := true
    pending := max (s.soak x).pending (immersionCount (s.geometry.immersion.get x)) }
  else if s.soakCounts x then { s.soak x with timer := (s.soak x).timer + 1 } else s.soak x

theorem State.advanceSoak_eq (s : State) (x : Box) :
    s.advanceSoak x = (s.setSoak x (s.soakAfter x)).postIf (s.soakCrosses x) .soak := by
  rcases s.advanceSoak_cases x with ⟨hstill, heq⟩ | ⟨huse, himm, hopen, hbelow, heq⟩ | ⟨huse, himm, hopen, hlimit, heq⟩
  · have hcounts : s.soakCounts x = false := by
      rcases hstill with h | h | h <;> simp [State.soakCounts, h]
    rw [heq]
    simp [State.soakAfter, State.soakCrosses, hcounts, State.postIf, State.setSoak, State.soak]
  · have hcounts : s.soakCounts x = true := by simp [State.soakCounts, huse, himm, hopen]
    rw [heq]
    simp [State.soakAfter, State.soakCrosses, hcounts, State.postIf, Nat.not_le.mpr hbelow]
  · have hcounts : s.soakCounts x = true := by simp [State.soakCounts, huse, himm, hopen]
    rw [heq]
    simp [State.soakAfter, State.soakCrosses, hcounts, State.postIf, hlimit]

/-- Both soak channels at an interval, each as it stood before. -/
theorem State.advanceSoak_both (s : State) :
    (s.advanceSoak .a).advanceSoak .b = { s with
      monitor := { s.monitor with soak := ⟨s.soakAfter .a, s.soakAfter .b⟩ }
      ports := withEvents s.ports (flagIf (s.soakCrosses .a || s.soakCrosses .b) .soak) } := by
  have hkept : (s.advanceSoak .a).soakAfter .b = s.soakAfter .b
      ∧ (s.advanceSoak .a).soakCrosses .b = s.soakCrosses .b := by
    rw [State.advanceSoak_eq, State.postIf_flagIf]
    exact ⟨rfl, rfl⟩
  rw [(s.advanceSoak .a).advanceSoak_eq .b, hkept.1, hkept.2, State.advanceSoak_eq]
  simp only [State.postIf_flagIf, State.setSoak_ports, withEvents_withEvents, flagIf_or_flagIf]
  rfl

/-! ### The drying zones at an interval (R72, R73) -/

/-- Whether a zone's accumulator advances at an interval. -/
def State.zoneHeats (s : State) (z : Zone) : Bool := (s.zoneRange z).isSome && (s.monitor.zones.get z).heated

/-- A zone's accumulator, advanced by one interval. -/
def State.accumulated (s : State) (z : Zone) : Nat := min ((s.monitor.zones.get z).accumulator + 1) Config.maxWord

/-- Whether a zone crosses the dwell limit at an interval. -/
def State.zoneDries (s : State) (z : Zone) : Bool :=
  s.zoneHeats z && !(s.monitor.zones.get z).crossed && decide (s.style.drying.dwellLimit ≤ s.accumulated z)

/-- A zone channel after an interval. -/
def State.zoneAfter (s : State) (z : Zone) : ZoneChannel :=
  if s.zoneDries z then { s.monitor.zones.get z with accumulator := s.accumulated z, crossed := true }
  else if s.zoneHeats z then { s.monitor.zones.get z with accumulator := s.accumulated z }
  else s.monitor.zones.get z

/-- Whether a position lies in a zone of a list that crosses the dwell limit. -/
def State.overdriedIn (s : State) (zs : List Zone) (i : Nat) : Bool :=
  zs.any fun z => s.zoneDries z && s.zoneHolds z i

/-- Lane A or B with OVERDRY where its zone, if listed, crosses. -/
def State.overdriedLane (s : State) (zs : List Zone) (x : Box) : List (Option LaneRecord) :=
  markWhere (·.add Cause.overdry.set 0) (s.overdriedIn (zs.filter fun z => z = laneZone x)) (s.lane x)

/-- The main lane with OVERDRY where a listed zone of it crosses. -/
def State.overdriedMain (s : State) (zs : List Zone) : List (Option MainRecord) :=
  markWhere (·.add Cause.overdry.set 0) (s.overdriedIn (zs.filter fun z => z ∈ mainZones)) s.path.main

/-- The state with what an interval of the zones can change: the zone channels, the records, flags at every port. -/
def State.withZoneWork (s : State) (zones : PerZone ZoneChannel) (lanes : PerBox (List (Option LaneRecord)))
    (main : List (Option MainRecord)) (e : EventSet) : State :=
  { s with
    monitor := { s.monitor with zones := zones }
    path := { s.path with lanes := lanes, main := main }
    ports := withEvents s.ports e }

theorem State.withZoneWork_withZoneWork (s : State) (zones zones' : PerZone ZoneChannel)
    (lanes lanes' : PerBox (List (Option LaneRecord))) (main main' : List (Option MainRecord)) (d e : EventSet) :
    (s.withZoneWork zones lanes main d).withZoneWork zones' lanes' main' e
      = s.withZoneWork zones' lanes' main' (d ||| e) :=
  congrArg (fun ports => { s.withZoneWork zones' lanes' main' 0 with ports := ports }) (withEvents_withEvents ..)

/-- The state after an interval of the zones listed, each as it stood before. -/
def State.zonesAdvanced (s : State) (zs : List Zone) : State :=
  s.withZoneWork (s.monitor.zones.mapWith fun z c => if z ∈ zs then s.zoneAfter z else c)
    ⟨s.overdriedLane zs .a, s.overdriedLane zs .b⟩ (s.overdriedMain zs) (flagIf (zs.any s.zoneDries) .overdry)

/-- A zone that does not cross marks nothing. -/
theorem State.overdriedIn_still {s : State} {z : Zone} (h : s.zoneDries z = false) (p : Zone → Bool) (i : Nat) :
    s.overdriedIn ([z].filter p) i = false := by
  cases hp : p z <;> simp [State.overdriedIn, hp, h]

/-- A zone that crosses marks the positions it holds, in its own lane. -/
theorem State.overdriedIn_crossing {s : State} {z : Zone} (h : s.zoneDries z = true) (p : Zone → Bool) :
    s.overdriedIn ([z].filter p) = fun i => p z && s.zoneHolds z i := by
  funext i
  cases hp : p z <;> simp [State.overdriedIn, hp, h]

/-- Two families that agree at every zone are equal. -/
theorem PerZone.ext_get {α : Type} {x y : PerZone α} (h : ∀ z, x.get z = y.get z) : x = y := by
  have hA := h .predryA; have hB := h .predryB
  have h1 := h .main1; have h2 := h .main2; have h3 := h .main3; have h4 := h .main4
  cases x; cases y; simp_all [PerZone.get]

theorem PerZone.set_eq_mapWith {α : Type} (x : PerZone α) (z : Zone) (f : Zone → α) :
    x.set z (f z) = x.mapWith fun y c => if y ∈ [z] then f y else c := by
  cases z <;> rfl

theorem State.advanceZone_still {s : State} {z : Zone} (h : s.zoneDries z = false) :
    s.advanceZone z = s.setZone z (s.zoneAfter z) := by
  rcases s.advanceZone_cases z with ⟨hheats, heq⟩ | ⟨hheats, -, heq⟩ | ⟨hheats, hlimit, hopen, -⟩
  · rw [heq]
    simp [State.zoneAfter, h, State.zoneHeats, hheats, State.setZone]
  · rw [heq]
    simp [State.zoneAfter, h, State.zoneHeats, hheats, State.accumulated]
  · have hdries : s.zoneDries z = true := by
      simpa [State.zoneDries, State.zoneHeats, hheats, hopen, State.accumulated] using hlimit
    exact absurd (h.symm.trans hdries) nofun

theorem State.advanceZone_crossing {s : State} {z : Zone} (h : s.zoneDries z = true) :
    s.advanceZone z = ((s.setZone z (s.zoneAfter z)).addToZone z Cause.overdry.set 0).post .overdry := by
  obtain ⟨⟨hheats, hopen⟩, hlimit⟩ : (s.zoneHeats z = true ∧ (s.monitor.zones.get z).crossed = false)
      ∧ s.style.drying.dwellLimit ≤ s.accumulated z := by
    simpa only [State.zoneDries, Bool.and_eq_true, Bool.not_eq_true', decide_eq_true_eq] using h
  rcases s.advanceZone_cases z with ⟨hcold, -⟩ | ⟨-, hbelow, -⟩ | ⟨-, -, -, heq⟩
  · exact absurd (hcold.symm.trans hheats) nofun
  · exact absurd ⟨hlimit, hopen⟩ hbelow
  · rw [heq, State.zoneAfter, if_pos h]
    rfl

/-- One zone at an interval is the list of that zone alone. -/
theorem State.advanceZone_eq (s : State) (z : Zone) : s.advanceZone z = s.zonesAdvanced [z] := by
  have hzones := s.monitor.zones.set_eq_mapWith z s.zoneAfter
  unfold State.zonesAdvanced State.overdriedLane State.overdriedMain
  cases hdries : s.zoneDries z with
  | false =>
    simp only [State.advanceZone_still hdries, markWhere_nowhere (State.overdriedIn_still hdries _), List.any_cons,
      List.any_nil, hdries, Bool.or_false, ← hzones]
    exact congrArg (fun ports => { s.setZone z (s.zoneAfter z) with ports := ports }) (withEvents_zero _).symm
  | true =>
    simp only [State.advanceZone_crossing hdries, State.overdriedIn_crossing hdries, List.any_cons, List.any_nil, hdries,
      Bool.or_false, ← hzones]
    have hlane := (s.setZone z (s.zoneAfter z)).addToZone_lane z Cause.overdry.set 0
    have hmain := (s.setZone z (s.zoneAfter z)).addToZone_main z Cause.overdry.set 0
    rw [State.addToZone_path]
    exact congrArg₂ (s.withZoneWork _ · · _) (PerBox.ext_get fun x => (hlane x).trans (by cases x <;> rfl)) hmain

/-- A zone not listed is as it stood. -/
theorem State.zonesAdvanced_unlisted {s : State} {z : Zone} {zs : List Zone} (h : z ∉ zs) :
    (s.zonesAdvanced zs).zoneDries z = s.zoneDries z ∧ (s.zonesAdvanced zs).zoneAfter z = s.zoneAfter z := by
  have hchannel : (s.zonesAdvanced zs).monitor.zones.get z = s.monitor.zones.get z := by
    simp [State.zonesAdvanced, State.withZoneWork, h]
  have hrange : (s.zonesAdvanced zs).zoneRange z = s.zoneRange z := rfl
  have hstyle : (s.zonesAdvanced zs).style = s.style := rfl
  unfold State.zoneAfter State.zoneDries State.zoneHeats State.accumulated
  rw [hchannel, hrange, hstyle]
  exact ⟨rfl, rfl⟩

/-- Whether some member of a list satisfies a test asks for the test at the members alone. -/
theorem any_eq_any_of_mem {α : Type} {l : List α} {p q : α → Bool} (h : ∀ y ∈ l, p y = q y) : l.any p = l.any q := by
  rw [Bool.eq_iff_iff, List.any_eq_true, List.any_eq_true]
  exact exists_congr fun y => and_congr_right fun hy => by rw [h y hy]

theorem State.overdriedIn_append (s : State) (zs ys : List Zone) (p : Zone → Bool) :
    s.overdriedIn ((zs ++ ys).filter p)
      = fun i => s.overdriedIn (zs.filter p) i || s.overdriedIn (ys.filter p) i := by
  funext i
  rw [State.overdriedIn, List.filter_append, List.any_append]
  rfl

section disjoint
variable {s : State} {zs ys : List Zone}

theorem State.zonesAdvanced_overdriedIn (h : ∀ y ∈ ys, y ∉ zs) (p : Zone → Bool) :
    (s.zonesAdvanced zs).overdriedIn (ys.filter p) = s.overdriedIn (ys.filter p) := by
  funext i
  exact any_eq_any_of_mem fun y hy =>
    congrArg (· && _) (State.zonesAdvanced_unlisted (h y (List.mem_of_mem_filter hy))).1

theorem State.zonesAdvanced_overdriedLane (h : ∀ y ∈ ys, y ∉ zs) (x : Box) :
    (s.zonesAdvanced zs).overdriedLane ys x = s.overdriedLane (zs ++ ys) x := by
  have hlane : (s.zonesAdvanced zs).lane x = s.overdriedLane zs x := by cases x <;> rfl
  rw [State.overdriedLane, hlane, State.overdriedLane, State.overdriedLane, State.overdriedIn_append,
    State.zonesAdvanced_overdriedIn h, markWhere_markWhere (LaneRecord.add_add_causes _)]

theorem State.zonesAdvanced_overdriedMain (h : ∀ y ∈ ys, y ∉ zs) :
    (s.zonesAdvanced zs).overdriedMain ys = s.overdriedMain (zs ++ ys) := by
  have hmain : (s.zonesAdvanced zs).path.main = s.overdriedMain zs := rfl
  rw [State.overdriedMain, hmain, State.overdriedMain, State.overdriedMain, State.overdriedIn_append,
    State.zonesAdvanced_overdriedIn h, markWhere_markWhere (MainRecord.add_add_causes _)]

/-- Zones advanced one after another are as advanced together, none being listed twice. -/
theorem State.zonesAdvanced_zonesAdvanced (h : ∀ y ∈ ys, y ∉ zs) :
    (s.zonesAdvanced zs).zonesAdvanced ys = s.zonesAdvanced (zs ++ ys) := by
  have hdries : ys.any (s.zonesAdvanced zs).zoneDries = ys.any s.zoneDries :=
    any_eq_any_of_mem fun y hy => (State.zonesAdvanced_unlisted (h y hy)).1
  have hzones : ((s.zonesAdvanced zs).monitor.zones.mapWith fun z c =>
        if z ∈ ys then (s.zonesAdvanced zs).zoneAfter z else c)
      = s.monitor.zones.mapWith fun z c => if z ∈ zs ++ ys then s.zoneAfter z else c := by
    refine PerZone.ext_get fun z => ?_
    by_cases hz : z ∈ ys
    · simp [hz, State.zonesAdvanced_unlisted (h z hz)]
    · simp [hz, State.zonesAdvanced, State.withZoneWork]
  calc (s.zonesAdvanced zs).zonesAdvanced ys
    _ = (s.zonesAdvanced zs).withZoneWork (s.monitor.zones.mapWith fun z c => if z ∈ zs ++ ys then s.zoneAfter z else c)
          ⟨s.overdriedLane (zs ++ ys) .a, s.overdriedLane (zs ++ ys) .b⟩ (s.overdriedMain (zs ++ ys))
          (flagIf (ys.any s.zoneDries) .overdry) := by
      rw [← hzones, ← hdries, ← State.zonesAdvanced_overdriedLane h, ← State.zonesAdvanced_overdriedLane h,
        ← State.zonesAdvanced_overdriedMain h]
      rfl
    _ = s.zonesAdvanced (zs ++ ys) := by
      rw [State.zonesAdvanced, State.withZoneWork_withZoneWork, flagIf_or_flagIf, ← List.any_append]
      rfl

end disjoint

theorem State.zonesAdvanced_nil (s : State) : s.zonesAdvanced [] = s := by
  have hlane (x : Box) : s.overdriedLane [] x = s.lane x := markWhere_nowhere (fun _ => rfl) _
  have hmain : s.overdriedMain [] = s.path.main := markWhere_nowhere (fun _ => rfl) _
  rw [State.zonesAdvanced, hlane, hlane, hmain]
  exact congrArg (fun ports => { s with ports := ports }) (withEvents_zero _)

theorem Zone.mem_all (z : Zone) : z ∈ Zone.all := by cases z <;> decide

/-- A list of zones, none twice, advanced in its order: each advances as it stood before. -/
theorem State.foldl_advanceZone {zs : List Zone} (h : zs.Nodup) (s : State) :
    zs.foldl State.advanceZone s = s.zonesAdvanced zs := by
  induction zs generalizing s with
  | nil => exact s.zonesAdvanced_nil.symm
  | cons z zs ih =>
    obtain ⟨hz, hzs⟩ := List.nodup_cons.mp h
    have hother : ∀ y ∈ zs, y ∉ [z] := fun y hy hyz => hz (List.eq_of_mem_singleton hyz ▸ hy)
    calc (z :: zs).foldl State.advanceZone s
      _ = (s.zonesAdvanced [z]).zonesAdvanced zs := by rw [List.foldl_cons, State.advanceZone_eq, ih hzs]
      _ = s.zonesAdvanced (z :: zs) := State.zonesAdvanced_zonesAdvanced hother

/-! ### The expiry of the interval timer -/

theorem exec_intervalTimerExpiry {s : State} (h : s.power = .running) :
    exec .intervalTimerExpiry s = .next (intervalTimerExpiry s) := by
  simp [exec, execIntervalTimerExpiry, State.whenRunning, h]

/-- The state at an expiry with the timer started anew and both soak channels advanced. -/
def State.soaksAdvanced (s : State) : State :=
  { s with
    monitor := { s.monitor with interval := some 0, soak := ⟨s.soakAfter .a, s.soakAfter .b⟩ }
    ports := withEvents s.ports (flagIf (s.soakCrosses .a || s.soakCrosses .b) .soak) }

/-- The state after an expiry of the running interval timer. -/
def State.intervalAdvanced (s : State) : State := s.soaksAdvanced.zonesAdvanced Zone.all

theorem intervalTimerExpiry_stopped {s : State} (h : s.monitor.interval = none) : intervalTimerExpiry s = s := by
  simp only [intervalTimerExpiry, h]

/-- Every soak channel and every zone advances as it stood before the expiry. -/
theorem intervalTimerExpiry_running {s : State} (h : s.monitor.interval.isSome = true) :
    intervalTimerExpiry s = s.intervalAdvanced := by
  obtain ⟨elapsed, hruns⟩ := Option.isSome_iff_exists.mp h
  simp only [intervalTimerExpiry, hruns]
  rw [State.foldl_advanceZone (by decide), State.advanceSoak_both]
  rfl

theorem Box.exists_iff {p : Box → Prop} : (∃ x, p x) ↔ p .a ∨ p .b := by
  constructor
  · rintro ⟨x, hx⟩
    cases x
    · exact .inl hx
    · exact .inr hx
  · rintro (ha | hb)
    · exact ⟨.a, ha⟩
    · exact ⟨.b, hb⟩

section expiry
variable (s : State)

theorem State.intervalAdvanced_soak (x : Box) : s.intervalAdvanced.soak x = s.soakAfter x := by cases x <;> rfl

theorem State.intervalAdvanced_zone (z : Zone) : s.intervalAdvanced.monitor.zones.get z = s.zoneAfter z :=
  (PerZone.get_mapWith ..).trans (if_pos z.mem_all)

theorem State.intervalAdvanced_port (p : Port) : s.intervalAdvanced.port p = { s.port p with
    events := (s.port p).events ||| flagIf (s.soakCrosses .a || s.soakCrosses .b) .soak
      ||| flagIf (Zone.all.any s.zoneDries) .overdry } := by
  have hports : s.intervalAdvanced.ports = withEvents (withEvents s.ports
      (flagIf (s.soakCrosses .a || s.soakCrosses .b) .soak)) (flagIf (Zone.all.any s.zoneDries) .overdry) := rfl
  rw [State.port, hports, withEvents_get, withEvents_get]
  rfl

theorem State.intervalAdvanced_lane (x : Box) : s.intervalAdvanced.lane x
    = markWhere (·.add Cause.overdry.set 0) (s.overdriedIn [laneZone x]) (s.lane x) := by
  cases x <;> rfl

theorem State.intervalAdvanced_main : s.intervalAdvanced.path.main
    = markWhere (·.add Cause.overdry.set 0) (s.overdriedIn mainZones) s.path.main := rfl

end expiry

/-- Settles O31: the stopped timer, then each part of the state after the expiry. -/
theorem intervalExpiryAdvancesSoakAndDwell : Obligations.IntervalExpiryAdvancesSoakAndDwell := by
  unfold Obligations.IntervalExpiryAdvancesSoakAndDwell
  intro s hrun
  refine ⟨fun hstopped => ?_, fun hruns => ?_⟩
  · rw [exec_intervalTimerExpiry hrun, intervalTimerExpiry_stopped hstopped]
  intro counts crosses heats acc dries
  refine ⟨s.intervalAdvanced, ?next, rfl, s.intervalAdvanced_soak, s.intervalAdvanced_zone, ?frame, ?flags, ?lanes,
    ?main⟩
  case next => rw [exec_intervalTimerExpiry hrun, intervalTimerExpiry_running hruns]
  case frame =>
    intro p
    rw [s.intervalAdvanced_port]
  case flags =>
    intro p i
    have hboxes : (∃ x, crosses x = true) ↔ (s.soakCrosses .a || s.soakCrosses .b) = true := by
      rw [Bool.or_eq_true]
      exact Box.exists_iff
    have hzones : (∃ z, dries z = true) ↔ Zone.all.any s.zoneDries = true := by
      rw [List.any_eq_true]
      exact exists_congr fun z => (and_iff_right z.mem_all).symm
    rw [hboxes, hzones, s.intervalAdvanced_port]
    simp only [BitVec.getLsbD_or, Bool.or_eq_true, flagIf_getLsbD, or_assoc]
    rfl
  case lanes =>
    intro x i
    rw [s.intervalAdvanced_lane, markWhere_getElem?]
    simp only [State.overdriedIn, List.any_cons, List.any_nil, Bool.or_false]
    rfl
  case main =>
    intro i
    rw [s.intervalAdvanced_main, markWhere_getElem?]
    rfl

/-! ### The moisture sample (R78, R79) -/

theorem exec_gaugeSample {s : State} (h : s.power = .running) (i : Nat) :
    exec (.gaugeSample i) s = .next (gaugeSample i s) := by
  simp [exec, execGaugeSample, State.whenRunning, h]

theorem regainOf_fault {i : Nat} (h : i < 360 ∨ 2080 < i) (span : Nat) : regainOf span i = none := if_pos h

/-- A current below 400 reads as 400 by the subtraction that stops at zero. -/
theorem regainOf_valid {i : Nat} (hlow : 360 ≤ i) (hhigh : i ≤ 2080) (span : Nat) :
    regainOf span i = some (min (roundHalfUp ((max i 400 - 400) * span) 1600) span) := by
  have hmax : max i 400 - 400 = i - 400 := by omega
  rw [regainOf, if_neg (by omega), hmax]

/-- Settles O32: the fault sample, whose posting asks for the state before, and the valid sample. -/
theorem gaugeSampleMovesTheGauge : Obligations.GaugeSampleMovesTheGauge := by
  unfold Obligations.GaugeSampleMovesTheGauge
  intro i s hrun
  rw [exec_gaugeSample hrun]
  refine ⟨fun hfault => ?_, fun hlow hhigh => ?_⟩
  · simp only [gaugeSample, regainOf_fault hfault]
    by_cases hgauge : s.monitor.gauge = .fault
    · simp [hgauge, State.postIf]
    · simp only [hgauge, State.postIf, if_false, bne_iff_ne, ne_eq, not_false_eq_true, if_true]
      rfl
  · simp only [gaugeSample, regainOf_valid hlow hhigh]

/-! ### The gauge arrival (R32, R80) -/

theorem set_slotAt_self {α : Type} {l : List (Option α)} {p : Nat} {r : α} (h : slotAt l p = some r) :
    l.set p (some r) = l := by
  unfold slotAt at h
  cases hl : l[p]? with
  | none => simp [hl] at h
  | some slot =>
    obtain rfl : slot = some r := by simpa [hl] using h
    obtain ⟨hp, hget⟩ := List.getElem?_eq_some_iff.mp hl
    rw [← hget, List.set_getElem_self]

theorem State.gaugeArrival_untracked {s : State} (h : slotAt s.path.main s.geometry.gauge = none) :
    s.gaugeArrival = s := by
  simp only [State.gaugeArrival, h]

theorem State.gaugeArrival_tracked {s : State} {r : MainRecord} (h : slotAt s.path.main s.geometry.gauge = some r) :
    s.gaugeArrival = s.setMain (s.path.main.set s.geometry.gauge (some (s.stampMoisture r))) := by
  simp only [State.gaugeArrival, h]

theorem State.stampMoisture_notValid {s : State} (h : s.monitor.gauge ≠ .valid) (r : MainRecord) :
    s.stampMoisture r = r := if_neg h

theorem State.stampMoisture_valid {s : State} {v : Nat} (h : s.monitor.gauge = .valid) (hv : s.monitor.regain = some v)
    (r : MainRecord) :
    s.stampMoisture r = { r with
      moisture := some v
      causes := r.causes ||| bandCause (s.settings.styles.get r.style).bands.moisture .moistLow .moistHigh (some v) } := by
  rw [State.stampMoisture, if_pos h, hv]

theorem State.gaugeArrival_main_notValid {s : State} (h : s.monitor.gauge ≠ .valid) :
    s.gaugeArrival.path.main = s.path.main := by
  cases hslot : slotAt s.path.main s.geometry.gauge with
  | none => rw [State.gaugeArrival_untracked hslot]
  | some r =>
    rw [State.gaugeArrival_tracked hslot, State.stampMoisture_notValid h]
    exact set_slotAt_self hslot

/-! ### The marker arrival (R109) -/

theorem slotMeets_iff (mask : CauseSet) (slot : Option MainRecord) :
    slotMeets mask slot = true ↔ ∃ r, slot = some r ∧ r.causes &&& mask ≠ 0 := by
  cases slot <;> simp [slotMeets, shares]

theorem State.fireFault_lost {s : State} (h : s.boxes.fieldReset ≠ none) : s.fireFault = s :=
  if_pos (Option.isSome_iff_ne_none.mpr h)

theorem State.fireFault_active {s : State} (h : s.boxes.fieldReset = none) :
    s.fireFault = { s with beams := { s.beams with faultJet := some (s.actuators.jetPulse * 1000) } } := by
  rw [State.fireFault, State.fieldResetRuns, h]
  rfl

section marker
variable {s : State} {now replaced : Option MainRecord}

theorem State.markerArrival_met (hnow : slotMeets s.style.masks.ink now = true)
    (hreplaced : slotMeets s.style.masks.ink replaced = false) : s.markerArrival now replaced = s.fireFault := by
  rw [State.markerArrival, hnow, hreplaced]
  rfl

theorem State.markerArrival_unmet
    (h : slotMeets s.style.masks.ink now = false ∨ slotMeets s.style.masks.ink replaced = true) :
    s.markerArrival now replaced = s := by
  rcases h with h | h <;> simp [State.markerArrival, h]

theorem State.markerArrival_lost (h : s.boxes.fieldReset ≠ none) : s.markerArrival now replaced = s := by
  rw [State.markerArrival, State.fireFault_lost h, ite_self]

end marker

/-- Settles O33: the gauge by its slot and state, the marker by which slots meet the ink mask. -/
theorem gaugeAndMarkerArrivals : Obligations.GaugeAndMarkerArrivals := by
  unfold Obligations.GaugeAndMarkerArrivals
  refine ⟨fun s r v => ?gauge, fun s now replaced => ?marker⟩
  case gauge =>
    refine ⟨State.gaugeArrival_untracked, State.gaugeArrival_main_notValid, fun hslot hvalid hregain => ?_⟩
    rw [State.gaugeArrival_tracked hslot, State.stampMoisture_valid hvalid hregain, bandCause_eq, ← BitVec.or_assoc]
    simp only [Option.any_some, decide_eq_true_eq]
  case marker =>
    intro meets
    have hmeets (slot : Option MainRecord) : meets slot ↔ slotMeets s.style.masks.ink slot = true :=
      (slotMeets_iff ..).symm
    simp only [hmeets, Bool.not_eq_true]
    refine ⟨fun hnow hreplaced hreset => ?_, fun h => ?_⟩
    · rw [State.markerArrival_met hnow hreplaced, State.fireFault_active hreset]
    · rcases h with hnow | hreplaced | hreset
      · exact State.markerArrival_unmet (.inl hnow)
      · exact State.markerArrival_unmet (.inr hreplaced)
      · exact State.markerArrival_lost hreset

end Sys2Proof.Machine
end

section
/-! The Box Control Unit: what a ramp expiry makes of the pressure channels, what MOVE ROLL refuses and how it starts or
ends a move; and the proofs of the statements about them. -/

namespace Sys2Proof.Machine

/-! ### The squeeze pressure at a ramp expiry (R84, R86) -/

theorem exec_rampTimerExpiry {s : State} (h : s.power = .running) :
    exec .rampTimerExpiry s = .next (rampTimerExpiry s) := by
  simp [exec, execRampTimerExpiry, State.whenRunning, h]

/-- The first two cases of R84, a box without its lane and a box without ends, are the box that is not in use. -/
theorem State.inUse_eq_false_iff (s : State) (x : Box) :
    s.inUse x = false ↔ s.laneExists x = false ∨ s.style.yarn.ends.get x = 0 := by
  rw [State.inUse, Bool.and_eq_false_iff, decide_eq_false_iff_not, Nat.not_le, Nat.lt_one_iff]

/-- The target by the four cases of R84 in their order. -/
theorem State.pressureTarget_eq (s : State) (x : Box) :
    s.pressureTarget x = min s.actuators.pressureLimit
      (if s.laneExists x = false then 0
       else if s.style.yarn.ends.get x = 0 then 0
       else if s.line.lineState = .stopped then s.style.boxes.standstill.get x
       else curvePressure (s.style.curve.get x) s.line.speed) := by
  simp only [State.pressureTarget, s.inUse_eq_false_iff x, ite_or]

theorem rampTimerExpiry_pressure (s : State) (x : Box) :
    (rampTimerExpiry s).boxes.pressure.get x = s.rampChannel x := by
  cases x <;> rfl

/-- Settles O34: the target by the cases of R84, then the ramp below the target and above it. -/
theorem rampMovesPressureTowardTarget : Obligations.RampMovesPressureTowardTarget := by
  unfold Obligations.RampMovesPressureTowardTarget
  intro s hrun target
  refine ⟨rampTimerExpiry s, exec_rampTimerExpiry hrun, rfl, fun x => ?_⟩
  have htarget : s.pressureTarget x = target x := s.pressureTarget_eq x
  rw [rampTimerExpiry_pressure, State.rampChannel, htarget]
  exact ⟨rfl, rampToward_eq s.actuators.rampRate _ (target x)⟩

/-! ### The start of a move (R91, R92) -/

theorem State.grant_complete (s : State) (p : Port) (x : Box) (c : Completion) :
    (s.grant p).complete x c = (s.complete x c).grant p :=
  (s.setRoll x { s.roll x with slot := some c }).grant_postTo p c.port (doneFlag x)

section startMove
variable {s : State} {x : Box} {port : Port} {target : Nat}

theorem State.startMove_arrived (h : target = (s.roll x).position) :
    s.startMove x port target
      = s.complete x ⟨.move, .done, (s.roll x).position, some target, port⟩ := if_pos h

/-- The move writes the one roll, and the one window where it takes the roll out of depth. -/
theorem State.startMove_away (h : target ≠ (s.roll x).position) :
    s.startMove x port target = { s with
      boxes := { s.boxes with rolls := s.boxes.rolls.set x { s.roll x with
        state := .moving target ⟨port, (s.roll x).position⟩, stepPhase := 0 } }
      addOn := if (s.roll x).depth = .atDepth ∧ target + 10 < s.dip x then
          { s.addOn with windows := s.addOn.windows.set x [] }
        else s.addOn } := by
  have hbelow : belowDepth target (s.dip x) = true ↔ target + 10 < s.dip x := decide_eq_true_iff
  simp only [State.startMove, if_neg h, hbelow]
  split <;> rfl

theorem State.grant_startMove (s : State) (p : Port) (x : Box) (port : Port) (target : Nat) :
    (s.grant p).startMove x port target = (s.startMove x port target).grant p := by
  by_cases h : target = (s.roll x).position
  · rw [State.startMove_arrived h, State.startMove_arrived (s := s.grant p) h, State.grant_complete, State.grant_roll]
  · rw [State.startMove_away h, State.startMove_away (s := s.grant p) h]
    rfl

end startMove

/-! ### MOVE ROLL (R91) -/

theorem permitted_moveRoll (r : Role) : permitted r .moveRoll = true ↔ r = .line ∨ r = .station := by
  cases r <;> decide

theorem moveModeOf_eq_none {b : Byte} (h : 1 < b.toNat) : moveModeOf b = none := by
  have hne : ∀ c : Byte, c.toNat ≤ 1 → b ≠ c := by rintro c hc rfl; omega
  rw [moveModeOf, if_neg (hne 0 (by decide)), if_neg (hne 1 (by decide))]

/-- A mode byte of at most 1 names a mode: 0 asks for the value, 1 for the position moved by the signed value. -/
theorem moveModeOf_of_le {b : Byte} (h : b.toNat ≤ 1) (position : Nat) (value : Word) :
    ∃ m, moveModeOf b = some m
      ∧ wantedPosition m position value = if b = 0 then (value.toNat : Int) else position + value.toInt := by
  rcases heat_setting_cases h with rfl | rfl
  · exact ⟨.absolute, rfl, rfl⟩
  · exact ⟨.relative, rfl, rfl⟩

/-- The target is the position asked for, bounded above by the travel and below by 0. -/
theorem moveTarget_eq (wanted : Int) (travel : Nat) : moveTarget wanted travel = (max 0 (min wanted travel)).toNat := by
  unfold moveTarget
  omega

theorem moveRollWork_unnamed {box mode : Byte} {s : State} (h : s.existingBox box = none ∨ moveModeOf mode = none)
    (port : Port) (value : Word) : moveRollWork port box mode value s = .plain s .range := by
  rcases h with hb | hm
  · simp only [moveRollWork, hb]
  · cases hb : s.existingBox box <;> simp only [moveRollWork, hb, hm]

section moveRoll
variable {s : State} {h : Hdr} {port : Port} {box mode : Byte} {value : Word} {x : Box} {m : MoveMode}

theorem moveRollWork_busy (hx : s.existingBox box = some x) (hm : moveModeOf mode = some m)
    (hbusy : s.boxes.fieldReset.isSome = true ∨ (s.roll x).state.inMotion = true) :
    moveRollWork port box mode value s = .plain s .busy := by
  simp only [moveRollWork, hx, hm]
  rcases hbusy with hreset | hmotion
  · rw [if_pos hreset]
  · rw [if_pos hmotion, ite_self]

theorem moveRollWork_unreferenced (hx : s.existingBox box = some x) (hm : moveModeOf mode = some m)
    (hreset : s.boxes.fieldReset = none) (hstate : (s.roll x).state = .unrefIdle) :
    moveRollWork port box mode value s = .plain s .unreferenced := by
  simp only [moveRollWork, hx, hm, hreset, hstate]
  rfl

theorem moveRollWork_pending (hx : s.existingBox box = some x) (hm : moveModeOf mode = some m)
    (hreset : s.boxes.fieldReset = none) (hstate : (s.roll x).state = .idle) (hslot : (s.roll x).slot.isSome = true) :
    moveRollWork port box mode value s = .plain s .pending := by
  simp only [moveRollWork, hx, hm, hreset, hstate, hslot]
  rfl

/-- A move that passes the checks of R91: its start, its status and its target as data. -/
theorem moveRollWork_accepted {wanted : Int} {target : Nat} (hx : s.existingBox box = some x)
    (hm : moveModeOf mode = some m) (hreset : s.boxes.fieldReset = none) (hstate : (s.roll x).state = .idle)
    (hslot : (s.roll x).slot = none) (hwanted : wantedPosition m (s.roll x).position value = wanted)
    (htarget : moveTarget wanted s.actuators.travel = target) :
    moveRollWork port box mode value s
      = .done (s.startMove x port target) (if (target : Int) = wanted then .started else .clamped) (u16 target) := by
  simp only [moveRollWork, hx, hm, hreset, hstate, hslot, hwanted, htarget]
  rfl

/-- The accepted move as a command: its start is made on the state the command finds, then answered. -/
theorem exec_moveRoll_accepted {wanted : Int} {target : Nat} (ha : s.admits h .moveRoll)
    (hx : s.existingBox box = some x) (hm : moveModeOf mode = some m) (hreset : s.boxes.fieldReset = none)
    (hstate : (s.roll x).state = .idle) (hslot : (s.roll x).slot = none)
    (hwanted : wantedPosition m (s.roll x).position value = wanted)
    (htarget : moveTarget wanted s.actuators.travel = target) :
    exec (.moveRoll h box mode value) s
      = .next ((s.startMove x h.port target).replied h (if (target : Int) = wanted then .started else .clamped)
          (u16 target)) := by
  refine run_done ha ?_
  rw [← State.grant_startMove]
  exact moveRollWork_accepted (s := s.grant h.port) hx hm hreset hstate hslot hwanted htarget

end moveRoll

/-- Settles O38: the refusals in their order, then the move that is at its target and the move that sets out. -/
theorem moveRollStartsTheMove : Obligations.MoveRollStartsTheMove := by
  unfold Obligations.MoveRollStartsTheMove
  refine ⟨permitted_moveRoll, fun h box mode value s ha => ?_⟩
  intro outcome
  have refused {status : Status}
      (hwork : moveRollWork h.port box mode value (s.grant h.port) = .plain (s.grant h.port) status) :
      outcome = .next (s.replied h status []) := run_plain ha hwork
  refine ⟨fun hr => refused (moveRollWork_unnamed (s := s.grant h.port) (hr.imp_right moveModeOf_eq_none) ..),
    fun x hx hmode => ?_⟩
  intro r wanted target status
  obtain ⟨m, hm, hwanted⟩ := moveModeOf_of_le hmode r.position value
  have accepted (hreset : s.boxes.fieldReset = none) (hstate : r.state = .idle) (hslot : r.slot = none) :
      outcome = .next ((s.startMove x h.port target).replied h status (u16 target)) :=
    exec_moveRoll_accepted ha hx hm hreset hstate hslot hwanted (moveTarget_eq wanted s.actuators.travel)
  refine ⟨fun hbusy => refused (moveRollWork_busy hx hm hbusy),
    fun hreset hstate => refused (moveRollWork_unreferenced hx hm hreset hstate),
    fun hreset hstate hslot => refused (moveRollWork_pending hx hm hreset hstate hslot),
    fun hreset hstate hslot hat => ?_, fun hreset hstate hslot haway => ?_⟩
  · rw [accepted hreset hstate hslot, State.startMove_arrived hat]
    cases x <;> rfl
  · rw [accepted hreset hstate hslot, State.startMove_away haway]

end Sys2Proof.Machine
end

section
/-! The Beam Unit: what a wound millimetre and a delivered slot make of the open beam, how SET TARGET and CLOSE SET
change or close it, and what the plan and store commands answer; and the proofs of the statements about them. -/

namespace Sys2Proof.Machine

/-! ### The slow and stop points (R110) -/

/-- A point's flag is posted where the phase has newly passed it. -/
theorem State.postPoints_eq (s : State) (old new : BeamPhase) :
    s.postPoints old new = { s with ports := s.ports.map fun u => { u with events := u.events
      ||| (if old = .opened ∧ new ≠ .opened then Flag.slowPoint.set else 0)
      ||| (if old ≠ .stopping ∧ new = .stopping then Flag.stopPoint.set else 0) } } := by
  have hslow : (old == .opened && new != .opened) = decide (old = .opened ∧ new ≠ .opened) := by
    cases old <;> cases new <;> rfl
  have hstop : (old != .stopping && new == .stopping) = decide (old ≠ .stopping ∧ new = .stopping) := by
    cases old <;> cases new <;> rfl
  rw [State.postPoints, hslow, hstop, State.postIf_eq, State.postIf_eq]
  simp only [decide_eq_true_eq]
  rfl

theorem State.grant_postPoints (s : State) (p : Port) (old new : BeamPhase) :
    (s.grant p).postPoints old new = (s.postPoints old new).grant p := by
  rw [State.postPoints, State.grant_postIf, State.grant_postIf]
  rfl

section points
variable (phase : BeamPhase) (c : Compares) (wound : Nat)

/-- Whether a wound length takes a beam from OPEN past the slow compare. -/
def passesSlow : Bool := decide (phase = .opened ∧ c.slow ≤ wound)

/-- Whether a wound length takes a beam in SLOWING, or one passing the slow compare now, past the stop compare. -/
def passesStop : Bool := decide ((passesSlow phase c wound ∨ phase = .slowing) ∧ c.stop ≤ wound)

theorem nextPhase_eq : nextPhase phase c wound =
    if passesStop phase c wound then .stopping else if passesSlow phase c wound then .slowing else phase := by
  cases phase with
  | opened =>
    by_cases hslow : c.slow ≤ wound
    · simp [nextPhase, passesStop, passesSlow, hslow]
    · simp [nextPhase, passesStop, passesSlow, hslow]
  | slowing => simp [nextPhase, passesStop, passesSlow]
  | stopping => simp [nextPhase, passesStop, passesSlow]

theorem nextPhase_leaves_opened :
    (phase = .opened ∧ nextPhase phase c wound ≠ .opened) ↔ passesSlow phase c wound = true := by
  cases phase with
  | opened =>
    by_cases hstop : c.stop ≤ wound
    · simp [nextPhase, passesSlow, hstop]
    · simp [nextPhase, passesSlow, hstop]
  | slowing => simp [passesSlow]
  | stopping => simp [passesSlow]

theorem nextPhase_enters_stopping :
    (phase ≠ .stopping ∧ nextPhase phase c wound = .stopping) ↔ passesStop phase c wound = true := by
  cases phase with
  | opened =>
    by_cases hslow : c.slow ≤ wound
    · simp [nextPhase, passesStop, passesSlow, hslow]
    · simp [nextPhase, passesStop, passesSlow, hslow]
  | slowing => simp [nextPhase, passesStop]
  | stopping => simp [passesStop, passesSlow]

end points

/-! ### A millimetre on an open beam (R106, R107, R111) -/

theorem State.testCut_eq (s : State) (o : OpenBeam) :
    let due := o.record.cutFallsDue s.geometry.markerLead
    s.testCut o = { s with beams := { s.beams with
      current := some (o.withRecord { o.record with
        cutsDue := o.record.cutsDue + (if due then 1 else 0)
        cutsSuppressed := o.record.cutsSuppressed + (if due && s.fieldResetRuns then 1 else 0) })
      cutJet := if due && !s.fieldResetRuns then some s.jetTime else s.beams.cutJet } } := by
  intro due
  change (if due then _ else _) = _
  cases due with
  | false => rfl
  | true => cases hreset : s.fieldResetRuns <;> rfl

theorem State.testPoints_eq {s : State} {o : OpenBeam} (h : s.beams.current = some o) :
    let slow := passesSlow o.phase o.compares o.record.wound
    let stop := passesStop o.phase o.compares o.record.wound
    s.testPoints = { s with
      beams := { s.beams with
        current := some { o with phase := if stop then .stopping else if slow then .slowing else o.phase } }
      ports := s.ports.map fun u => { u with events := u.events
        ||| (if slow then Flag.slowPoint.set else 0) ||| (if stop then Flag.stopPoint.set else 0) } } := by
  intro slow stop
  simp only [State.testPoints, h, State.postPoints_eq, nextPhase_leaves_opened, nextPhase_enters_stopping]
  rw [nextPhase_eq]
  rfl

/-- Whether an open beam is newly beyond its overrun compare. -/
def OpenBeam.overruns (o : OpenBeam) : Bool := decide (o.compares.overrun < o.record.wound) && !o.record.overrun

theorem State.setBeam_current {s : State} {o : OpenBeam} (h : s.beams.current = some o) : s.setBeam (some o) = s := by
  rw [← h]
  rfl

theorem State.testOverrun_eq {s : State} {o : OpenBeam} (h : s.beams.current = some o) :
    s.testOverrun = (s.setBeam (some (o.withRecord { o.record with
      overrun := o.record.overrun || o.overruns }))).postIf o.overruns .overrun := by
  have hran : (o.compares.overrun < o.record.wound ∧ o.record.overrun = false) ↔ o.overruns = true := by
    simp [OpenBeam.overruns]
  simp only [State.testOverrun, h, hran]
  cases o.overruns with
  | true => rw [if_pos rfl, Bool.or_true]; rfl
  | false => rw [if_neg Bool.false_ne_true, Bool.or_false]; exact (State.setBeam_current h).symm

theorem State.woundMillimetre_idle {s : State} (h : s.beams.current = none) : s.woundMillimetre = s := by
  rw [State.woundMillimetre, h]

theorem State.woundMillimetre_full {s : State} {o : OpenBeam} (h : s.beams.current = some o)
    (hfull : 4294967295 ≤ o.record.wound) : s.woundMillimetre = s := by
  simp only [State.woundMillimetre, h]
  exact if_neg (Nat.not_lt.mpr hfull)

theorem State.woundMillimetre_counted {s : State} {o : OpenBeam} (h : s.beams.current = some o)
    (hroom : o.record.wound < 4294967295) :
    s.woundMillimetre
      = (s.testCut (o.withRecord { o.record with wound := o.record.wound + 1 })).testPoints.testOverrun := by
  simp only [State.woundMillimetre, h]
  exact if_pos hroom

/-- Settles O43: the cut mark, the points and the overrun are tested in turn, each as one whole update. -/
theorem millimetreTestsMarksAndPoints : Obligations.MillimetreTestsMarksAndPoints := by
  unfold Obligations.MillimetreTestsMarksAndPoints
  refine fun s => ⟨State.woundMillimetre_idle, fun o h => ⟨State.woundMillimetre_full h, fun hroom => ?_⟩⟩
  rw [State.woundMillimetre_counted h hroom, State.testCut_eq, State.testPoints_eq rfl, State.testOverrun_eq rfl,
    State.postIf_eq]
  rfl

/-! ### Delivery (R114, R115) -/

theorem Stats.take_absent (t : Stats) : t.take none = t := rfl

section take
variable {t : Stats} {m : Nat} (v : Nat)

theorem Stats.take_first_minimum (h : t.minimum = none) : (t.take (some v)).minimum = some v := by
  simp only [Stats.take, h]

theorem Stats.take_minimum (h : t.minimum = some m) : (t.take (some v)).minimum = some (min m v) := by
  simp only [Stats.take, h]

theorem Stats.take_first_maximum (h : t.maximum = none) : (t.take (some v)).maximum = some v := by
  simp only [Stats.take, h]

theorem Stats.take_maximum (h : t.maximum = some m) : (t.take (some v)).maximum = some (max m v) := by
  simp only [Stats.take, h]

end take

theorem BeamRecord.deliver_wound (r : BeamRecord) (slot : Option MainRecord) : (r.deliver slot).wound = r.wound := by
  cases slot <;> simp only [BeamRecord.deliver]

theorem BeamRecord.deliver_ranges (r : BeamRecord) (slot : Option MainRecord) :
    (r.deliver slot).ranges = r.ranges := by
  cases slot <;> simp only [BeamRecord.deliver]

theorem BeamRecord.deliver_causes (r : BeamRecord) (slot : Option MainRecord) :
    (r.deliver slot).causes = r.causes ||| deliveredCauses slot := by
  cases slot <;> rfl

/-- The fault ranges of a record that has taken a delivered slot, and whether one of them was appended. -/
def State.rangesAfter (s : State) (r : BeamRecord) (slot : Option MainRecord) : List FaultRange × Bool :=
  if shares (deliveredCauses slot) s.style.masks.beamFault then
    placeSpan r.ranges (spanStart r.wound) r.wound s.style.drying.mergeGap
      (deliveredCauses slot &&& s.style.masks.beamFault)
  else (r.ranges, false)

/-- The record a delivered slot leaves an open beam: counts, statistics and causes, and the fault ranges. -/
def State.recordAfter (s : State) (r : BeamRecord) (slot : Option MainRecord) : BeamRecord :=
  { r.deliver slot with ranges := (s.rangesAfter r slot).1 }

section deliver
variable {s : State} {o : OpenBeam} {slot : Option MainRecord}

theorem State.rangesAfter_deliver (r : BeamRecord) : s.rangesAfter (r.deliver slot) slot = s.rangesAfter r slot := by
  simp only [State.rangesAfter, BeamRecord.deliver_wound, BeamRecord.deliver_ranges]

theorem State.rangesAfter_unmasked (h : deliveredCauses slot &&& s.style.masks.beamFault = 0) (r : BeamRecord) :
    s.rangesAfter r slot = (r.ranges, false) := if_neg (by rw [shares, h]; decide)

theorem State.rangesAfter_masked (h : deliveredCauses slot &&& s.style.masks.beamFault ≠ 0) (r : BeamRecord) :
    s.rangesAfter r slot = placeSpan r.ranges (r.wound - 200) r.wound s.style.drying.mergeGap
      (deliveredCauses slot &&& s.style.masks.beamFault) := if_pos (bne_iff_ne.mpr h)

theorem State.deliver_idle (h : s.beams.current = none) : s.deliver slot = s := by
  rw [State.deliver, h]

theorem State.deliver_full (h : s.beams.current = some o) (hfull : 4294967295 ≤ o.record.wound) :
    s.deliver slot = s := by
  simp only [State.deliver, h]
  exact if_neg (Nat.not_lt.mpr hfull)

/-- A delivered slot taken: the beam's record anew, FAULT_RANGE posted where a range was appended. -/
theorem State.deliver_taken (h : s.beams.current = some o) (hroom : o.record.wound < 4294967295) :
    s.deliver slot = (s.setBeam (some (o.withRecord (s.recordAfter o.record slot)))).postIf
      (s.rangesAfter o.record slot).2 .faultRange := by
  rw [State.recordAfter, ← State.rangesAfter_deliver]
  simp only [State.deliver, h, State.rangesAfter]
  refine (if_pos hroom).trans ?_
  split
  · rfl
  · rfl

theorem State.deliver_beams (h : s.beams.current = some o) (hroom : o.record.wound < 4294967295) :
    (s.deliver slot).beams
      = { s.beams with current := some (o.withRecord (s.recordAfter o.record slot)) } := by
  rw [State.deliver_taken h hroom, State.postIf_eq]
  rfl

/-- The ranges and the posting of a taken slot, read off the list and the answer of its placing. -/
theorem State.deliver_placed {ranges : List FaultRange} {appended : Bool} (h : s.beams.current = some o)
    (hroom : o.record.wound < 4294967295) (hr : s.rangesAfter o.record slot = (ranges, appended)) :
    (s.recordAfter o.record slot).ranges = ranges
      ∧ (s.deliver slot).ports = (s.postIf appended .faultRange).ports := by
  rw [State.deliver_taken h hroom, State.postIf_eq, State.postIf_eq, hr]
  exact ⟨congrArg Prod.fst hr, rfl⟩

end deliver

/-- An untracked slot adds its span to the untracked length and leaves the tracked figures. -/
theorem State.recordAfter_untracked (s : State) (r : BeamRecord) :
    (s.recordAfter r none).untracked = r.untracked + (r.wound - (r.wound - 200))
      ∧ (s.recordAfter r none).tracked = r.tracked ∧ (s.recordAfter r none).addOn = r.addOn
      ∧ (s.recordAfter r none).moisture = r.moisture := by
  simp only [State.recordAfter, BeamRecord.deliver, spanStart, Config.segmentLength, and_self]

/-- Settles O44: the ranges by the cases of R115, the rest of the record by R114. -/
theorem deliveryGrowsTheFaultMap : Obligations.DeliveryGrowsTheFaultMap := by
  unfold Obligations.DeliveryGrowsTheFaultMap
  refine fun s slot => ⟨State.deliver_idle, fun o => State.deliver_full, fun o h hroom => ?_⟩
  intro taken w first causes placed gap
  have hcauses : deliveredCauses slot = causes := by cases slot <;> rfl
  have hmasked (hp : placed ≠ 0) : s.rangesAfter o.record slot = placeSpan o.record.ranges first w gap placed := by
    rw [State.rangesAfter_masked (by rwa [hcauses]), hcauses]
  have htake (t : Stats) (figure : Option Nat) : taken t (t.take figure) figure :=
    ⟨fun hf => by rw [hf, Stats.take_absent], fun v hf => by
      rw [hf]
      exact ⟨rfl, rfl, Stats.take_first_minimum v, fun _ => Stats.take_minimum v, Stats.take_first_maximum v,
        fun _ => Stats.take_maximum v⟩⟩
  have hplaced {ranges : List FaultRange} (appended : Bool) (hr : s.rangesAfter o.record slot = (ranges, appended)) :=
    State.deliver_placed h hroom hr
  refine ⟨o.withRecord (s.recordAfter o.record slot), State.deliver_beams h hroom, rfl, rfl,
    o.record.deliver_wound slot, hcauses ▸ o.record.deliver_causes slot, ?untracked, ?tracked, ?unmasked, ?first,
    ?merged, ?apart⟩
  case untracked => rintro rfl; exact s.recordAfter_untracked o.record
  case tracked => rintro m rfl; exact ⟨rfl, rfl, htake _ _, htake _ _⟩
  case unmasked => exact fun hp => hplaced false (State.rangesAfter_unmasked (by rwa [hcauses]) _)
  case first => exact fun hp hnil => hplaced true (by rw [hmasked hp, hnil, placeSpan_nil])
  case merged =>
    exact fun front last hp hlast hreach => hplaced false (by rw [hmasked hp, hlast, placeSpan_append, if_pos hreach])
  case apart =>
    intro front last hp hlast hbeyond
    have hlength : o.record.ranges.length = front.length + 1 := by rw [hlast, List.length_append]; rfl
    have hspan := hmasked hp
    rw [hlast, placeSpan_append, if_neg (Nat.not_le.mpr hbeyond), ← hlength, ← hlast] at hspan
    refine ⟨fun hroom => hplaced true ?_, fun hheld => hplaced false ?_⟩
    · rw [hspan]; exact if_pos hroom
    · rw [hspan]; exact if_neg (Nat.not_lt.mpr hheld)

/-! ### CLOSE SET (R118) -/

theorem permitted_closeSet (r : Role) : permitted r .closeSet = true ↔ r = .line ∨ r = .station := by
  cases r <;> decide

theorem State.grant_closeBeam (s : State) (p : Port) (o : OpenBeam) (reason : CloseReason) :
    (s.grant p).closeBeam o reason = (s.closeBeam o reason).grant p := by
  rw [State.closeBeam, State.closeBeam, ← State.grant_post]
  rfl

/-- The store keeps the newest four (R119). -/
theorem storeBeam_eq (store : List BeamRecord) (r : BeamRecord) :
    storeBeam store r = (store ++ [r]).drop (store.length - 3) :=
  congrArg (fun n => (store ++ [r]).drop n) (Nat.add_sub_add_right store.length 1 3)

section closeSet
variable {s : State} {h : Hdr}

theorem exec_closeSet_moving (ha : s.admits h .closeSet) (hmove : s.line.lineState ≠ .stopped) :
    exec (.closeSet h) s = .next (s.replied h .notStopped []) :=
  run_plain ha (if_pos hmove)

theorem exec_closeSet_idle (ha : s.admits h .closeSet) (hstop : s.line.lineState = .stopped)
    (hidle : s.beams.current = none) : exec (.closeSet h) s = .next (s.replied h .none []) :=
  run_plain ha (by
    refine (if_neg (not_not.mpr hstop)).trans ?_
    simp only [State.grant_beams, hidle])

theorem exec_closeSet_open {o : OpenBeam} (ha : s.admits h .closeSet) (hstop : s.line.lineState = .stopped)
    (hopen : s.beams.current = some o) :
    exec (.closeSet h) s = .next ((s.closeBeam o .closeSet).replied h .ok []) :=
  run_done ha (by
    refine (if_neg (not_not.mpr hstop)).trans ?_
    simp only [State.grant_beams, hopen, State.grant_closeBeam])

end closeSet

theorem State.slowRequest_idle {s : State} (h : s.beams.current = none) : s.slowRequest = false := by
  rw [State.slowRequest, h]

theorem State.stopRequest_idle {s : State} (h : s.beams.current = none) : s.stopRequest = false := by
  rw [State.stopRequest, h]

/-- Settles O46: the two refusals, the beam closed, and the Beam Unit inert in IDLE. -/
theorem closeSetClosesWithoutOpening : Obligations.CloseSetClosesWithoutOpening := by
  unfold Obligations.CloseSetClosesWithoutOpening
  refine ⟨permitted_closeSet, fun h s ha => ⟨exec_closeSet_moving ha, exec_closeSet_idle ha, fun o hstop hopen => ?_⟩,
    fun s slot hidle => ⟨State.slowRequest_idle hidle, State.stopRequest_idle hidle, State.woundMillimetre_idle hidle,
      State.deliver_idle hidle⟩⟩
  rw [exec_closeSet_open ha hstop hopen, State.closeBeam, storeBeam_eq]
  rfl

/-! ### SET TARGET (R112) -/

theorem permitted_setTarget (r : Role) : permitted r .setTarget = true ↔ r = .line ∨ r = .station := by
  cases r <;> decide

section setTarget
variable {s : State} {h : Hdr} {metres : Word}

theorem exec_setTarget_outside (ha : s.admits h .setTarget) (hm : metres.toNat < 100 ∨ 60000 < metres.toNat) :
    exec (.setTarget h metres) s = .next (s.replied h .range []) :=
  run_plain ha (if_pos hm)

theorem exec_setTarget_idle (ha : s.admits h .setTarget) (hm : ¬(metres.toNat < 100 ∨ 60000 < metres.toNat))
    (hidle : s.beams.current = none) : exec (.setTarget h metres) s = .next (s.replied h .none []) :=
  run_plain ha (by simp only [setTargetWork, if_neg hm, State.grant_beams, hidle])

/-- An accepted target: compares and phase anew from it, each point newly passed posted. -/
theorem exec_setTarget_open {o : OpenBeam} (ha : s.admits h .setTarget)
    (hm : ¬(metres.toNat < 100 ∨ 60000 < metres.toNat)) (hopen : s.beams.current = some o) :
    let c := s.compares (metres.toNat * 1000)
    let phase := phaseFor c o.record.wound
    exec (.setTarget h metres) s = .next (((s.setBeam (some
      ⟨phase, { o.record with target := metres.toNat * 1000 }, c⟩)).postPoints o.phase phase).replied h
        (if phase = .stopping then .late else .ok)
        (u8 (beamStateCode (some phase)) ++ u32 c.slow ++ u32 c.stop ++ u32 c.overrun)) := by
  intro c phase
  refine run_done ha ?_
  rw [← State.grant_postPoints]
  simp only [setTargetWork, if_neg hm, State.grant_beams, hopen]
  rfl

end setTarget

/-- Settles O47: the two refusals in their order, then the target set with its compares, phase and postings. -/
theorem setTargetDecidesTheState : Obligations.SetTargetDecidesTheState := by
  unfold Obligations.SetTargetDecidesTheState
  refine ⟨permitted_setTarget, fun h metres s ha => ⟨exec_setTarget_outside ha, fun hlow hhigh => ?_⟩⟩
  have hm : ¬(metres.toNat < 100 ∨ 60000 < metres.toNat) := by omega
  refine ⟨exec_setTarget_idle ha hm, fun o hopen => ?_⟩
  rw [exec_setTarget_open ha hm hopen, State.postPoints_eq]
  rfl

/-! ### PLAN APPEND and PLAN CLEAR (R121, R122) -/

theorem permitted_planAppend (r : Role) : permitted r .planAppend = true ↔ r = .station ∨ r = .data := by
  cases r <;> decide

theorem permitted_planClear (r : Role) : permitted r .planClear = true ↔ r = .station ∨ r = .data := by
  cases r <;> decide

/-- The number's upper bound is the width of its field. -/
theorem PlanEntry.inRange_iff (number target cut : Word) :
    PlanEntry.inRange ⟨number.toNat, target.toNat, cut.toNat⟩ = true ↔ 1 ≤ number.toNat ∧ 100 ≤ target.toNat
      ∧ target.toNat ≤ 60000 ∧ 200 ≤ cut.toNat ∧ cut.toNat ≤ 5000 := by
  have hwidth : number.toNat ≤ 65535 := Nat.le_of_lt_succ number.isLt
  simp [PlanEntry.inRange, hwidth]

section plan
variable {s : State} {h : Hdr} {number target cut : Word}

theorem exec_planAppend_outside (ha : s.admits h .planAppend)
    (hr : PlanEntry.inRange ⟨number.toNat, target.toNat, cut.toNat⟩ = false) :
    exec (.planAppend h number target cut) s = .next (s.replied h .range []) :=
  run_plain ha (by simp only [planAppendWork, hr]; rfl)

theorem exec_planAppend_full (ha : s.admits h .planAppend)
    (hr : PlanEntry.inRange ⟨number.toNat, target.toNat, cut.toNat⟩ = true) (hfull : 12 ≤ s.beams.plan.length) :
    exec (.planAppend h number target cut) s = .next (s.replied h .full []) :=
  run_plain ha (by simp only [planAppendWork, hr]; exact if_pos hfull)

theorem exec_planAppend_joined (ha : s.admits h .planAppend)
    (hr : PlanEntry.inRange ⟨number.toNat, target.toNat, cut.toNat⟩ = true) (hroom : s.beams.plan.length < 12) :
    exec (.planAppend h number target cut) s
      = .next (({ s with beams := { s.beams with
        plan := s.beams.plan ++ [⟨number.toNat, target.toNat, cut.toNat⟩] } } : State).replied h .ok
          (u8 (s.beams.plan.length + 1))) :=
  run_done ha (by simp only [planAppendWork, hr]; exact if_neg (Nat.not_le.mpr hroom))

theorem exec_planClear (ha : s.admits h .planClear) :
    exec (.planClear h) s
      = .next (({ s with beams := { s.beams with plan := [] } } : State).replied h .ok (u8 s.beams.plan.length)) :=
  run_done ha rfl

end plan

/-! ### RELEASE BEAM (R119, R120) -/

theorem permitted_releaseBeam (r : Role) : permitted r .releaseBeam = true ↔ r = .station ∨ r = .data := by
  cases r <;> decide

/-- In a store kept oldest first, the record with as many younger ones as its age lies where the older ones end. -/
theorem agePlace_eq {α : Type} (older : List α) (r : α) (younger : List α) :
    agePlace (older ++ r :: younger).length younger.length = older.length := by
  simp only [agePlace, List.length_append, List.length_cons]
  omega

theorem storedOf_beyond {store : List BeamRecord} {age : Nat} (h : store.length ≤ age) : storedOf store age = none :=
  if_neg (Nat.not_lt.mpr h)

theorem storedOf_held (older : List BeamRecord) (r : BeamRecord) (younger : List BeamRecord) :
    storedOf (older ++ r :: younger) younger.length = some r := by
  have hheld : younger.length < (older ++ r :: younger).length := by
    simp only [List.length_append, List.length_cons]
    omega
  rw [storedOf, if_pos hheld, agePlace_eq, List.getElem?_append_right (Nat.le_refl _), Nat.sub_self]
  rfl

section releaseBeam
variable {s : State} {h : Hdr} {age : Byte}

theorem exec_releaseBeam_outside (ha : s.admits h .releaseBeam) (hage : 3 < age.toNat) :
    exec (.releaseBeam h age) s = .next (s.replied h .range []) :=
  run_plain ha (if_pos hage)

theorem exec_releaseBeam_absent (ha : s.admits h .releaseBeam) (hage : age.toNat ≤ 3)
    (hnone : storedOf s.beams.store age.toNat = none) :
    exec (.releaseBeam h age) s = .next (s.replied h .none []) :=
  run_plain ha (by simp only [releaseBeamWork, if_neg (Nat.not_lt.mpr hage), State.grant_beams, hnone])

theorem exec_releaseBeam_held {r : BeamRecord} (ha : s.admits h .releaseBeam) (hage : age.toNat ≤ 3)
    (hheld : storedOf s.beams.store age.toNat = some r) :
    exec (.releaseBeam h age) s
      = .next (({ s with beams := { s.beams with
        store := s.beams.store.eraseIdx (agePlace s.beams.store.length age.toNat) } } : State).replied h .ok
          (u16 r.number)) :=
  run_done ha (by
    simp only [releaseBeamWork, if_neg (Nat.not_lt.mpr hage), State.grant_beams, hheld]
    rfl)

end releaseBeam

/-- Settles O48: PLAN APPEND with its two refusals, PLAN CLEAR, and RELEASE BEAM with its two refusals. -/
theorem planAndStoreCommands : Obligations.PlanAndStoreCommands := by
  unfold Obligations.PlanAndStoreCommands
  refine ⟨fun r => ⟨permitted_planAppend r, permitted_planClear r, permitted_releaseBeam r⟩,
    fun h number target cut s ha => ?append, fun h s ha => exec_planClear ha, fun h age s ha => ?release⟩
  case append =>
    intro valid outcome
    have hvalid : PlanEntry.inRange ⟨number.toNat, target.toNat, cut.toNat⟩ = true ↔ valid :=
      PlanEntry.inRange_iff number target cut
    exact ⟨fun hv => exec_planAppend_outside ha (Bool.eq_false_iff.mpr (mt hvalid.mp hv)),
      fun hv => exec_planAppend_full ha (hvalid.mpr hv), fun hv => exec_planAppend_joined ha (hvalid.mpr hv)⟩
  case release =>
    refine ⟨exec_releaseBeam_outside ha, fun hage hlen => exec_releaseBeam_absent ha hage (storedOf_beyond hlen),
      fun older r younger hage hstore hplace => ?_⟩
    have hheld : storedOf s.beams.store age.toNat = some r := by rw [hstore, ← hplace, storedOf_held]
    rw [exec_releaseBeam_held ha hage hheld, hstore, ← hplace, agePlace_eq,
      List.eraseIdx_append_of_length_le (Nat.le_refl _), Nat.sub_self]
    rfl

end Sys2Proof.Machine
end

section
/-! The masters' events and snapshots: a command's write to its own port behind the grant, what EXCHANGE EVENTS, SNAP
and READ SNAP answer; and the proofs of the statements about them. -/

namespace Sys2Proof.Machine

/-! ### The granted port's own controller -/

/-- A write of the granted port that neither reads nor writes port state and queued frame passes behind the grant. -/
theorem State.grant_updatePort (s : State) (p : Port) (f : PortUnit → PortUnit)
    (hf : ∀ u, f { u with state := .executing, queued := [] } = { f u with state := .executing, queued := [] }) :
    (s.grant p).setPort p (f ((s.grant p).port p)) = (s.setPort p (f (s.port p))).grant p := by
  rw [State.grant_port_same, hf, State.grant_setPort]

theorem State.grant_port_events (s : State) (p : Port) : ((s.grant p).port p).events = (s.port p).events := by
  rw [State.grant_port_same]

theorem State.grant_port_snapshot (s : State) (p : Port) : ((s.grant p).port p).snapshot = (s.port p).snapshot := by
  rw [State.grant_port_same]

/-! ### EXCHANGE EVENTS (R146) -/

theorem grant_exchangeEventsWork (p : Port) (clear : Word) (s : State) :
    exchangeEventsWork p clear (s.grant p)
      = .done ((s.setPort p { s.port p with events := (s.port p).events &&& ~~~clear }).grant p) .ok
          (be16 (s.port p).events) := by
  have hwrite := s.grant_updatePort p (fun u => { u with events := u.events &&& ~~~clear }) fun _ => rfl
  rw [exchangeEventsWork, hwrite, State.grant_port_events]

/-- Settles O14: the work of EXCHANGE EVENTS, taken behind the grant. -/
theorem exchangeEventsTakesAndClears : Obligations.ExchangeEventsTakesAndClears := by
  unfold Obligations.ExchangeEventsTakesAndClears
  exact fun h clear s ha => run_done ha (grant_exchangeEventsWork h.port clear s)

/-! ### SNAP (R148) -/

/-- The ages count from the newest end of a store kept oldest first (R119). -/
theorem storedOf_eq_reverse (store : List BeamRecord) (age : Nat) : storedOf store age = store.reverse[age]? := by
  by_cases hage : age < store.length
  · rw [storedOf, if_pos hage, List.getElem?_reverse hage, agePlace]
  · have hlen : store.length ≤ age := Nat.not_lt.mp hage
    rw [storedOf_beyond hlen, List.getElem?_eq_none (by rwa [List.length_reverse])]

/-- The state with a copy taken into a port's own snapshot. -/
def State.withSnapshot (s : State) (p : Port) (c : Snapshot) : State :=
  s.setPort p { s.port p with snapshot := some c }

theorem State.grant_takeSnapshot (s : State) (p : Port) (c : Snapshot) :
    (s.grant p).takeSnapshot p c = .done ((s.withSnapshot p c).grant p) .ok c.summary := by
  have hwrite := s.grant_updatePort p (fun u => { u with snapshot := some c }) fun _ => rfl
  rw [State.takeSnapshot, hwrite, State.withSnapshot]

section snap
variable {s : State} {h : Hdr} {source age : Byte}

theorem exec_snap_copied {c : Snapshot} (ha : s.admits h .snap)
    (hw : snapWork h.port source age (s.grant h.port) = (s.grant h.port).takeSnapshot h.port c) :
    exec (.snap h source age) s = .next ((s.withSnapshot h.port c).replied h .ok c.summary) :=
  run_done ha (hw.trans (State.grant_takeSnapshot s h.port c))

theorem exec_snap_winding {o : OpenBeam} (ha : s.admits h .snap) (hopen : s.beams.current = some o) :
    exec (.snap h 0 age) s
      = .next ((s.withSnapshot h.port (.beam o.record)).replied h .ok (Snapshot.beam o.record).summary) :=
  exec_snap_copied ha (by simp only [snapWork, State.grant_beams, hopen, if_true])

theorem exec_snap_idle (ha : s.admits h .snap) (hidle : s.beams.current = none) :
    exec (.snap h 0 age) s = .next (s.replied h .none []) :=
  run_plain ha (by simp only [snapWork, State.grant_beams, hidle, if_true])

theorem exec_snap_stored {r : BeamRecord} (ha : s.admits h .snap) (hage : age.toNat ≤ 3)
    (hheld : s.beams.store.reverse[age.toNat]? = some r) :
    exec (.snap h 1 age) s = .next ((s.withSnapshot h.port (.beam r)).replied h .ok (Snapshot.beam r).summary) :=
  exec_snap_copied ha (by
    refine (if_neg (Nat.not_lt.mpr hage)).trans ?_
    simp only [State.grant_beams, storedOf_eq_reverse, hheld])

theorem exec_snap_notStored (ha : s.admits h .snap) (hage : age.toNat ≤ 3)
    (hnone : s.beams.store.reverse[age.toNat]? = none) :
    exec (.snap h 1 age) s = .next (s.replied h .none []) :=
  run_plain ha (by
    refine (if_neg (Nat.not_lt.mpr hage)).trans ?_
    simp only [State.grant_beams, storedOf_eq_reverse, hnone])

theorem exec_snap_plan (ha : s.admits h .snap) :
    exec (.snap h 2 age) s
      = .next ((s.withSnapshot h.port (.plan s.beams.plan)).replied h .ok (Snapshot.plan s.beams.plan).summary) :=
  exec_snap_copied ha rfl

theorem exec_snap_ageOutside (ha : s.admits h .snap) (hage : 3 < age.toNat) :
    exec (.snap h 1 age) s = .next (s.replied h .range []) :=
  run_plain ha (if_pos hage)

theorem exec_snap_unknownSource (ha : s.admits h .snap) (hsource : 2 < source.toNat) :
    exec (.snap h source age) s = .next (s.replied h .range []) := by
  have hne : ∀ c : Byte, c.toNat ≤ 2 → source ≠ c := by rintro c hc rfl; omega
  exact run_plain ha (by
    rw [snapWork, if_neg (hne 0 (by decide)), if_neg (hne 1 (by decide)), if_neg (hne 2 (by decide))])

end snap

/-! ### READ SNAP (R149) -/

section readSnap
variable {s : State} {h : Hdr} {part start : Byte}

theorem exec_readSnap_unknownPart (ha : s.admits h .readSnap) (hpart : 2 < part.toNat) :
    exec (.readSnap h part start) s = .next (s.replied h .range []) :=
  run_plain ha (if_pos hpart)

theorem exec_readSnap_empty (ha : s.admits h .readSnap) (hpart : part.toNat ≤ 2)
    (hnone : (s.port h.port).snapshot = none) :
    exec (.readSnap h part start) s = .next (s.replied h .none []) :=
  run_plain ha (by simp only [readSnapWork, if_neg (Nat.not_lt.mpr hpart), State.grant_port_snapshot, hnone])

theorem exec_readSnap_header {c : Snapshot} (ha : s.admits h .readSnap) (hc : (s.port h.port).snapshot = some c) :
    exec (.readSnap h 0 start) s = .next (s.replied h .ok c.headerBytes) :=
  run_done ha (by simp only [readSnapWork, State.grant_port_snapshot, hc]; rfl)

section beam
variable {r : BeamRecord}

theorem exec_readSnap_ranges (ha : s.admits h .readSnap) (hr : (s.port h.port).snapshot = some (.beam r))
    (hstart : start.toNat ≤ r.ranges.length) :
    exec (.readSnap h 1 start) s = .next (s.replied h .ok (itemsFrom r.ranges start.toNat 4 FaultRange.bytes)) :=
  run_done ha (by
    simp only [readSnapWork, State.grant_port_snapshot, hr, hstart, and_true]
    rfl)

theorem exec_readSnap_beam_refused (ha : s.admits h .readSnap) (hr : (s.port h.port).snapshot = some (.beam r))
    (hheader : part ≠ 0) (hno : ¬(part = 1 ∧ start.toNat ≤ r.ranges.length)) :
    exec (.readSnap h part start) s = .next (s.replied h .range []) :=
  run_plain ha (by
    simp only [readSnapWork, State.grant_port_snapshot, hr, if_neg hheader, if_neg hno, ite_self])

end beam

section plan
variable {es : List PlanEntry}

theorem exec_readSnap_entries (ha : s.admits h .readSnap) (hes : (s.port h.port).snapshot = some (.plan es))
    (hstart : start.toNat ≤ es.length) :
    exec (.readSnap h 2 start) s = .next (s.replied h .ok (itemsFrom es start.toNat 6 PlanEntry.bytes)) :=
  run_done ha (by
    simp only [readSnapWork, State.grant_port_snapshot, hes, hstart, and_true]
    rfl)

theorem exec_readSnap_plan_refused (ha : s.admits h .readSnap) (hes : (s.port h.port).snapshot = some (.plan es))
    (hheader : part ≠ 0) (hno : ¬(part = 2 ∧ start.toNat ≤ es.length)) :
    exec (.readSnap h part start) s = .next (s.replied h .range []) :=
  run_plain ha (by
    simp only [readSnapWork, State.grant_port_snapshot, hes, if_neg hheader, if_neg hno, ite_self])

end plan

end readSnap

/-- Settles O16: SNAP by its source, READ SNAP by what the port's snapshot holds and then by the part. -/
theorem snapCopiesAndReadSnapReads : Obligations.SnapCopiesAndReadSnapReads := by
  unfold Obligations.SnapCopiesAndReadSnapReads
  refine fun h s => ⟨fun source age ha => ?snap, fun part start ha => ?readSnap⟩
  case snap =>
    intro copied
    refine ⟨?current, ?stored, ?plan, ?refused⟩
    case current =>
      rintro rfl
      cases hopen : s.beams.current with
      | some o => exact exec_snap_winding ha hopen
      | none => exact exec_snap_idle ha hopen
    case stored =>
      rintro rfl hage
      cases hheld : s.beams.store.reverse[age.toNat]? with
      | some r => exact exec_snap_stored ha hage hheld
      | none => exact exec_snap_notStored ha hage hheld
    case plan =>
      rintro rfl
      exact exec_snap_plan ha
    case refused =>
      rintro (⟨rfl, hage⟩ | hsource)
      · exact exec_snap_ageOutside ha hage
      · exact exec_snap_unknownSource ha hsource
  case readSnap =>
    intro answers outOfRange
    refine ⟨exec_readSnap_unknownPart ha, exec_readSnap_empty ha, fun r hr => ?beam, fun es hes => ?plan⟩
    case beam =>
      refine ⟨?_, ?_, ?_, ?_⟩ <;> rintro rfl
      · exact exec_readSnap_header (c := .beam r) ha hr
      · exact exec_readSnap_ranges ha hr
      · exact fun hbeyond => exec_readSnap_beam_refused ha hr (by decide) fun hin => Nat.not_lt.mpr hin.2 hbeyond
      · exact exec_readSnap_beam_refused ha hr (by decide) fun hin => absurd hin.1 (by decide)
    case plan =>
      refine ⟨?_, ?_, ?_, ?_⟩ <;> rintro rfl
      · exact exec_readSnap_header (c := .plan es) ha hes
      · exact exec_readSnap_entries ha hes
      · exact fun hbeyond => exec_readSnap_plan_refused ha hes (by decide) fun hin => Nat.not_lt.mpr hin.2 hbeyond
      · exact exec_readSnap_plan_refused ha hes (by decide) fun hin => absurd hin.1 (by decide)

end Sys2Proof.Machine
end

section
/-! The footprint of a command: which parts of the state it can write, each command once, so that a statement about
  what
the commands keep looks at the writing commands alone. -/

namespace Sys2Proof.Machine

/-! ### The parts of the state -/

/-- The parts a command writes or keeps as a whole. -/
inductive Part where
  | supply | line | slots | sequence | pulses | causes | windows | reports | interval | soak | zones | gauge
  | pressure | rolls | autoLift | fieldReset | homeSwitch | beam | jets | beamLists
  | machine | styles | active | roles | pendingStyle | nv | events | taken | masks | snapshots | selections | stages
  | arbiter
  deriving DecidableEq

/-- What it is for a part not to be written: the two states agree in it. Of the event sets two things are said:
  `events`
that no flag is posted or taken, `taken` that no flag is taken. `stages` is what a port receives and sends with. -/
def Part.same (s t : State) : Part → Prop
  | .supply => t.freeCount = s.freeCount ∧ t.power = s.power ∧ t.startKind = s.startKind ∧ t.hold = s.hold
      ∧ t.mark = s.mark
  | .line => t.line = s.line
  | .slots => t.path.lanes = s.path.lanes ∧ t.path.main = s.path.main
  | .sequence => t.path.sequence = s.path.sequence
  | .pulses => ∀ x, (t.segment x).pulses = (s.segment x).pulses
  | .causes => ∀ x, (t.segment x).causes = (s.segment x).causes
  | .windows => t.addOn.windows = s.addOn.windows
  | .reports => t.addOn.reports = s.addOn.reports
  | .interval => t.monitor.interval = s.monitor.interval
  | .soak => t.monitor.soak = s.monitor.soak
  | .zones => t.monitor.zones = s.monitor.zones
  | .gauge => t.monitor.gauge = s.monitor.gauge ∧ t.monitor.regain = s.monitor.regain
      ∧ t.monitor.sampleTimer = s.monitor.sampleTimer
  | .pressure => t.boxes.pressure = s.boxes.pressure ∧ t.boxes.rampTimer = s.boxes.rampTimer
  | .rolls => t.boxes.rolls = s.boxes.rolls
  | .autoLift => t.boxes.autoLift = s.boxes.autoLift
  | .fieldReset => t.boxes.fieldReset = s.boxes.fieldReset
  | .homeSwitch => t.boxes.homeSwitch = s.boxes.homeSwitch
  | .beam => t.beams.current = s.beams.current
  | .jets => t.beams.cutJet = s.beams.cutJet ∧ t.beams.faultJet = s.beams.faultJet
  | .beamLists => t.beams.plan = s.beams.plan ∧ t.beams.store = s.beams.store
  | .machine => t.settings.machine = s.settings.machine
  | .styles => t.settings.styles = s.settings.styles
  | .active => t.settings.active = s.settings.active
  | .roles => t.settings.roles = s.settings.roles
  | .pendingStyle => t.pendingStyle = s.pendingStyle
  | .nv => t.nv = s.nv
  | .events => ∀ p, (t.port p).events = (s.port p).events
  | .taken => ∀ p i, (s.port p).events.getLsbD i = true → (t.port p).events.getLsbD i = true
  | .masks => ∀ p, (t.port p).mask = (s.port p).mask ∧ (t.port p).keep = (s.port p).keep
  | .snapshots => ∀ p, (t.port p).snapshot = (s.port p).snapshot
  | .selections => ∀ p, (t.port p).selected = (s.port p).selected
  | .stages => ∀ p, (t.port p).state = (s.port p).state ∧ (t.port p).rx = (s.port p).rx
      ∧ (t.port p).queued = (s.port p).queued ∧ (t.port p).inBreak = (s.port p).inBreak
      ∧ (t.port p).reply = (s.port p).reply
  | .arbiter => t.arbiter = s.arbiter

/-- From `s` to `t` at most the listed parts are written, and never the queue. -/
def Frame (ps : List Part) (s t : State) : Prop := t.pending = s.pending ∧ ∀ part, part ∉ ps → part.same s t

theorem Part.same_refl (s : State) (part : Part) : part.same s s := by
  cases part <;> simp [Part.same]

theorem Part.same_trans {s t u : State} {part : Part} (h : part.same s t) (h' : part.same t u) : part.same s u := by
  cases part
  case taken => exact fun p i hi => h' p i (h p i hi)
  all_goals simp_all [Part.same]

namespace Frame
variable {s t u : State} {ps qs : List Part}

theorem refl (ps : List Part) (s : State) : Frame ps s s := ⟨rfl, fun part _ => part.same_refl s⟩

theorem trans (h : Frame ps s t) (h' : Frame ps t u) : Frame ps s u :=
  ⟨h'.1.trans h.1, fun part hp => Part.same_trans (h.2 part hp) (h'.2 part hp)⟩

theorem mono (h : Frame ps s t) (hs : ps.all (· ∈ qs) = true) : Frame qs s t :=
  ⟨h.1, fun part hp => h.2 part fun hin => hp (by simpa using List.all_eq_true.mp hs part hin)⟩

/-- One write after another, each within the list. -/
theorem seq {rs : List Part} (h : Frame ps s t) (h' : Frame qs t u) (hs : (ps ++ qs).all (· ∈ rs) = true) :
    Frame rs s u := by
  rw [List.all_append, Bool.and_eq_true] at hs
  exact (h.mono hs.1).trans (h'.mono hs.2)

theorem ite {c : Prop} [Decidable c] (h : c → Frame ps s t) (h' : ¬c → Frame ps s u) : Frame ps s
  (if c then t else u) := by
  split
  · next hc => exact h hc
  · next hc => exact h' hc

theorem of_same (hp : t.pending = s.pending) (h : ∀ part : Part, part ∈ ps ∨ part.same s t) : Frame ps s t :=
  ⟨hp, fun part hn => (h part).resolve_left hn⟩

theorem foldl {α : Type} {f : State → α → State} (h : ∀ a s, Frame ps s (f s a)) (l : List α) (s : State) :
    Frame ps s (l.foldl f s) := by
  induction l generalizing s with
  | nil => exact refl ps s
  | cons a l ih => exact (h a s).trans (ih _)

end Frame

/-! ### The updates of one place -/

section updates
variable (s : State) (x : Box)

theorem frame_drawFree : Frame [.supply] s s.drawFree :=
  .of_same rfl fun part => by cases part <;> simp [Part.same, State.segment, State.port]

theorem frame_setPort (p : Port) (u : PortUnit) :
    Frame [.events, .taken, .masks, .snapshots, .selections, .stages] s (s.setPort p u) :=
  .of_same rfl fun part => by cases part <;> simp [Part.same]

/-- What is read alike of a port's old and new controller is read alike of every port. -/
theorem State.setPort_reads {β : Type} (f : PortUnit → β) {s : State} {p : Port} {u : PortUnit}
    (hu : f u = f (s.port p)) (q : Port) : f ((s.setPort p u).port q) = f (s.port q) := by
  by_cases h : q = p
  · rw [h, State.port_setPort_same, hu]
  · rw [State.port_setPort_ne s u h]

theorem frame_setStage (p : Port) (st : PortState) (rx : Option RxFrame) (queued : List Byte) (inBreak : Bool)
    (reply : Option Reply) : Frame [.stages] s (s.setPort p { s.port p with
      state := st, rx := rx, queued := queued, inBreak := inBreak, reply := reply }) :=
  .of_same rfl fun part => by
    cases part <;> simp [Part.same, State.setPort_reads PortUnit.events, State.setPort_reads PortUnit.mask,
      State.setPort_reads PortUnit.keep, State.setPort_reads PortUnit.snapshot, State.setPort_reads PortUnit.selected]

theorem frame_setEvents (p : Port) (e : EventSet) :
    Frame [.events, .taken] s (s.setPort p { s.port p with events := e }) :=
  .of_same rfl fun part => by
    cases part <;> simp [Part.same, State.setPort_reads PortUnit.mask, State.setPort_reads PortUnit.keep,
      State.setPort_reads PortUnit.snapshot, State.setPort_reads PortUnit.selected,
      State.setPort_reads PortUnit.state, State.setPort_reads PortUnit.rx, State.setPort_reads PortUnit.queued,
      State.setPort_reads PortUnit.inBreak, State.setPort_reads PortUnit.reply]

theorem frame_post (f : Flag) : Frame [.events] s (s.post f) :=
  .of_same rfl fun part => by cases part <;> simp +contextual [Part.same, PortUnit.withEvent]

theorem frame_postTo (p : Port) (f : Flag) : Frame [.events] s (s.postTo p f) := by
  refine ⟨rfl, fun part hn => ?_⟩
  by_cases ht : part = .taken
  · subst ht
    intro q i hi
    by_cases h : q = p
    · subst h; simp [State.postTo, PortUnit.withEvent, hi]
    · simpa [State.postTo, State.port_setPort_ne _ _ h] using hi
  · exact (frame_setEvents s p _).2 part (by simp_all)

theorem frame_setRoll (r : RollChannel) : Frame [.rolls] s (s.setRoll x r) :=
  .of_same rfl fun part => by cases part <;> simp [Part.same]

theorem frame_setSoak (c : SoakChannel) : Frame [.soak] s (s.setSoak x c) :=
  .of_same rfl fun part => by cases part <;> simp [Part.same]

theorem frame_setZone (z : Zone) (c : ZoneChannel) : Frame [.zones] s (s.setZone z c) :=
  .of_same rfl fun part => by cases part <;> simp [Part.same]

theorem frame_setSegment (o : OpenSegment) : Frame [.pulses, .causes] s (s.setSegment x o) :=
  .of_same rfl fun part => by cases part <;> simp [Part.same]

theorem frame_setReport (r : Report) : Frame [.reports] s (s.setReport x r) :=
  .of_same rfl fun part => by cases part <;> simp [Part.same]

theorem frame_setWindow (w : List Nat) : Frame [.windows] s (s.setWindow x w) :=
  .of_same rfl fun part => by cases part <;> simp [Part.same]

theorem frame_setLane (l : List (Option LaneRecord)) : Frame [.slots] s (s.setLane x l) :=
  .of_same rfl fun part => by cases part <;> simp [Part.same, State.segment]

theorem frame_setMain (l : List (Option MainRecord)) : Frame [.slots] s (s.setMain l) :=
  .of_same rfl fun part => by cases part <;> simp [Part.same, State.segment]

theorem frame_setBeam (o : Option OpenBeam) : Frame [.beam] s (s.setBeam o) :=
  .of_same rfl fun part => by cases part <;> simp [Part.same]

end updates

/-! ### The shared operations -/

section operations
variable (s : State) (x : Box)

theorem frame_postIf (c : Bool) (f : Flag) : Frame [.events] s (s.postIf c f) :=
  .ite (fun _ => frame_post s f) fun _ => .refl _ s

theorem frame_addCauses (c : CauseSet) : Frame [.causes] s (s.addCauses x c) := by
  rw [State.addCauses_eq]
  exact .of_same rfl fun part => by
    cases part <;> cases x <;> simp [Part.same, State.segment, PerBox.get, PerBox.set]
    all_goals rintro (_ | _) <;> simp

theorem frame_addCausesInUse (c : CauseSet) : Frame [.causes] s (s.addCausesInUse x c) :=
  .ite (fun _ => frame_addCauses s x c) fun _ => .refl _ s

theorem frame_openSegment (c : CauseSet) : Frame [.pulses, .causes] s (s.openSegment x c) := by
  rw [State.openSegment_eq]
  exact frame_setSegment s x _

theorem frame_addToZone (z : Zone) (c : CauseSet) (d : Nat) : Frame [.slots] s (s.addToZone z c d) := by
  rw [State.addToZone_path]
  exact .of_same rfl fun part => by cases part <;> simp [Part.same, State.segment, State.port]

theorem frame_emptyWindows : Frame [.windows] s s.emptyWindows := (frame_setWindow s .a []).trans
  (frame_setWindow _ .b [])

/-! ### Box Control Unit -/

theorem frame_settleDepth : Frame [.rolls, .soak, .causes] s (s.settleDepth x) :=
  .ite (fun _ => .refl _ s) fun _ =>
    (((frame_setRoll s x _).seq (frame_setSoak _ x _) (by decide) : Frame [.rolls, .soak] _ _)).seq
      (frame_addCausesInUse _ x _) (by decide)

theorem frame_settleDepths : Frame [.rolls, .soak, .causes] s s.settleDepths :=
  (frame_settleDepth s .a).trans (frame_settleDepth _ .b)

theorem frame_enterRoll (r : RollState) : Frame [.rolls] s (s.enterRoll x r) := frame_setRoll s x _

theorem frame_complete (c : Completion) : Frame [.rolls, .events] s (s.complete x c) :=
  (frame_setRoll s x _).seq (frame_postTo _ c.port (doneFlag x)) (by decide)

theorem frame_moveStep (target : Nat) (onward : RollState) :
    Frame [.rolls, .soak, .causes] s (s.moveStep x target onward) :=
  (frame_setRoll s x _).seq (frame_settleDepth _ x) (by decide)

theorem frame_rollStep : Frame [.rolls, .soak, .causes, .events] s (rollStep x s) := by
  have hmove (target : Nat) (r : RollState) : Frame [.rolls, .soak, .causes, .events] s (s.moveStep x target r) :=
    (frame_moveStep s x target r).mono (by decide)
  unfold rollStep
  dsimp only
  split
  · exact .refl _ s
  · exact .refl _ s
  · exact .ite (fun _ => (frame_moveStep s x _ _).seq (frame_complete _ x _) (by decide)) fun _ => hmove _ _
  · refine .ite (fun _ => ?_) fun _ => (frame_setRoll s x _).seq (frame_settleDepth _ x) (by decide)
    have hend := (frame_enterRoll s x .unrefIdle).seq (rs := [.rolls, .soak, .causes]) (frame_settleDepth _ x)
      (by decide)
    exact (hend.seq (rs := [.rolls, .soak, .causes, .events]) (frame_complete _ x _) (by decide)).seq
      (frame_post _ _) (by decide)
  · exact hmove _ _
  · exact hmove _ _

theorem frame_homeDone (f : Flight) : Frame [.rolls, .soak, .causes, .events] s (s.homeDone x f) :=
  ((frame_setRoll s x _).seq (rs := [.rolls, .soak, .causes]) (frame_settleDepth _ x) (by decide)).seq
    (frame_complete _ x _) (by decide)

theorem frame_noteSwitch (level : Bool) : Frame [.homeSwitch] s (s.noteSwitch x level) :=
  .of_same rfl fun part => by
    cases part <;> simp [State.noteSwitch, Part.same, State.segment, State.port]

theorem frame_homeSwitchActive (level : Bool) :
    Frame [.homeSwitch, .rolls, .soak, .causes, .events] s (homeSwitchActive x level s) := by
  have hnote := frame_noteSwitch s x level
  unfold homeSwitchActive
  dsimp only
  split
  · exact .ite (fun _ => hnote.seq (frame_homeDone _ x _) (by decide)) fun _ => hnote.mono (by decide)
  all_goals exact hnote.mono (by decide)

theorem frame_startMove (p : Port) (target : Nat) : Frame [.rolls, .windows, .events] s (s.startMove x p target) := by
  refine .ite (fun _ => (frame_complete s x _).mono (by decide)) fun _ => ?_
  refine Frame.seq (ps := [.windows]) ?_ (frame_enterRoll _ x _) (by decide)
  exact .ite (fun _ => frame_setWindow s x []) fun _ => .refl _ s

theorem frame_startHome (p : Port) : Frame [.rolls, .soak, .causes, .windows, .events] s (s.startHome x p) := by
  refine .ite (fun _ => (frame_homeDone s x _).mono (by decide)) fun _ => ?_
  refine Frame.seq (ps := [.windows, .rolls]) ?_ (frame_settleDepth _ x) (by decide)
  refine Frame.seq (ps := [.windows]) ?_ (frame_enterRoll _ x _) (by decide)
  exact .ite (fun _ => frame_setWindow s x []) fun _ => .refl _ s

theorem frame_autoLiftRoll : Frame [.rolls, .windows, .events] s (s.autoLiftRoll x) := by
  have hempty := frame_setWindow s x []
  unfold State.autoLiftRoll
  refine .ite (fun _ => ?_) fun _ => .refl _ s
  split
  · exact hempty.seq (frame_enterRoll _ x _) (by decide)
  · exact hempty.seq (frame_enterRoll _ x _) (by decide)
  · exact (hempty.seq (rs := [.rolls, .windows, .events]) (frame_complete _ x _) (by decide)).seq
      (frame_enterRoll _ x _) (by decide)
  all_goals exact .refl _ s

theorem frame_withAutoLift (t : Option Timer) : Frame [.autoLift] s
  { s with boxes := { s.boxes with autoLift := t } } :=
  .of_same rfl fun part => by cases part <;> simp [Part.same, State.segment, State.port]

theorem frame_autoLiftExpiry : Frame [.autoLift, .rolls, .windows, .events] s (autoLiftExpiry s) := by
  unfold autoLiftExpiry
  split
  · exact .refl _ s
  · refine Frame.seq (ps := [.autoLift, .rolls, .windows, .events]) ?_ (frame_autoLiftRoll _ .b) (by decide)
    exact (frame_withAutoLift s none).seq (frame_autoLiftRoll _ .a) (by decide)

theorem frame_autoLowerRoll : Frame [.rolls] s (s.autoLowerRoll x) := by
  unfold State.autoLowerRoll
  refine .ite (fun _ => ?_) fun _ => .refl _ s
  split
  · exact .ite (fun _ => frame_enterRoll s x _) fun _ => .refl _ s
  · exact frame_enterRoll s x _
  all_goals exact .refl _ s

theorem frame_boxesAnnounce (old new : LineState) : Frame [.autoLift, .rolls] s (s.boxesAnnounce old new) := by
  refine .ite (fun _ => (frame_withAutoLift s _).mono (by decide)) fun _ => .ite (fun _ => ?_) fun _ => .refl _ s
  refine .ite (fun _ => ?_) fun _ => (frame_withAutoLift s none).mono (by decide)
  refine Frame.seq (ps := [.autoLift, .rolls]) ?_ (frame_autoLowerRoll _ .b) (by decide)
  exact (frame_withAutoLift s none).seq (frame_autoLowerRoll _ .a) (by decide)

theorem frame_resetRoll : Frame [.rolls, .soak, .causes, .events] s (s.resetRoll x) := by
  refine .ite (fun _ => ?_) fun _ => .refl _ s
  refine Frame.seq (ps := [.rolls, .events]) ?_ (frame_settleDepth _ x) (by decide)
  refine Frame.seq (ps := [.rolls, .events]) ?_ (frame_enterRoll _ x _) (by decide)
  split
  · exact frame_complete s x _
  · exact .refl _ s

theorem frame_checkTravel : Frame [.rolls, .soak, .causes] s (s.checkTravel x) :=
  .ite (fun _ => (frame_enterRoll s x .unrefIdle).seq (frame_settleDepth _ x) (by decide)) fun _ => .refl _ s

end operations

end Sys2Proof.Machine
end

section
namespace Sys2Proof.Machine

/-! ### Condition Monitor and Length Counter Unit -/

section operations
variable (s : State) (x : Box)

theorem frame_applyDwell (z : Zone) : Frame [.slots] s (s.applyDwell z) :=
  .ite (fun _ => frame_addToZone s z _ _) fun _ => .refl _ s

theorem frame_monitorLeaveStop : Frame [.slots, .interval, .soak, .zones] s s.monitorLeaveStop := by
  have htimers (t : State) : Frame [.interval, .soak, .zones] t { t with monitor := { t.monitor with
      interval := none
      soak := ⟨t.monitor.soak.a.leaveStop, t.monitor.soak.b.leaveStop⟩
      zones := t.monitor.zones.mapWith fun _ c => c.leaveStop } } :=
    .of_same rfl fun part => by cases part <;> simp [Part.same, State.segment, State.port]
  exact (Frame.foldl (fun z t => frame_applyDwell t z) Zone.all s).seq (htimers _) (by decide)

theorem frame_withInterval (t : Option Nat) :
    Frame [.interval] s { s with monitor := { s.monitor with interval := t } } :=
  .of_same rfl fun part => by cases part <;> simp [Part.same, State.segment, State.port]

theorem frame_monitorAnnounce (old new : LineState) :
    Frame [.slots, .interval, .soak, .zones, .causes] s (s.monitorAnnounce old new) := by
  have hleave : Frame [.slots, .interval, .soak, .zones] s
      (if old = .stopped ∧ new ≠ .stopped then s.monitorLeaveStop else s) :=
    .ite (fun _ => frame_monitorLeaveStop s) fun _ => .refl _ s
  cases new with
  | crawl => exact hleave.seq ((frame_addCausesInUse _ .a _).trans (frame_addCausesInUse _ .b _)) (by decide)
  | stopped => exact hleave.seq (frame_withInterval _ _) (by decide)
  | run => exact hleave.mono (by decide)

theorem frame_beamAnnounce (new : LineState) : Frame [.beam] s (s.beamAnnounce new) := by
  unfold State.beamAnnounce
  split
  · exact frame_setBeam s _
  all_goals exact .refl _ s

theorem frame_withLine (u : LengthUnit) : Frame [.line] s { s with line := u } :=
  .of_same rfl fun part => by cases part <;> simp [Part.same, State.segment, State.port]

/-- What a change of LINE STATE can write. -/
def announced : List Part := [.line, .slots, .interval, .soak, .zones, .causes, .rolls, .autoLift, .beam]

theorem frame_changeLineState (new : LineState) : Frame announced s (s.changeLineState new) := by
  refine .ite (fun _ => .refl _ s) fun _ => ?_
  refine Frame.seq (ps := announced) ?_ (frame_beamAnnounce _ new) (by decide)
  refine Frame.seq (ps := announced) ?_ (frame_boxesAnnounce _ _ new) (by decide)
  exact (frame_withLine s _).seq (frame_monitorAnnounce _ _ new) (by decide)

theorem frame_standstillTimeout : Frame announced s (standstillTimeout s) :=
  .ite (fun _ => .refl _ s) fun _ => (frame_withLine s _).seq (frame_changeLineState _ .stopped) (by decide)

theorem frame_trackLineWork : Frame announced s s.trackLineWork := by
  have hspeed (t : State) : Frame announced t t.computeSpeed := (frame_withLine t _).seq (frame_changeLineState _ _)
    (by decide)
  refine .ite (fun _ => ?_) fun _ => ?_
  · refine Frame.seq (ps := announced) ?_ (frame_withLine _ _) (by decide)
    refine Frame.seq (ps := announced) ?_ (frame_withLine _ _) (by decide)
    exact (frame_withLine s _).seq (frame_changeLineState _ .crawl) (by decide)
  · refine Frame.seq (ps := announced) ?_ (frame_withLine _ _) (by decide)
    exact .ite (fun _ => (frame_withLine s _).seq (hspeed _) (by decide)) fun _ => (frame_withLine s _).mono
      (by decide)

theorem frame_advanceSoak : Frame [.soak, .events] s (s.advanceSoak x) := by
  rw [State.advanceSoak_eq]
  exact (frame_setSoak s x _).seq (frame_postIf _ _ _) (by decide)

theorem frame_advanceZone (z : Zone) : Frame [.zones, .slots, .events] s (s.advanceZone z) := by
  rcases s.advanceZone_cases z with ⟨-, h⟩ | ⟨-, -, h⟩ | ⟨-, -, -, h⟩ <;> rw [h]
  · exact .refl _ s
  · exact (frame_setZone s z _).mono (by decide)
  · exact ((frame_setZone s z _).seq (rs := [.zones, .slots]) (frame_addToZone _ z _ _) (by decide)).seq
      (frame_post _ _) (by decide)

theorem frame_intervalTimerExpiry :
    Frame [.interval, .soak, .zones, .slots, .events] s (intervalTimerExpiry s) := by
  unfold intervalTimerExpiry
  split
  · exact .refl _ s
  · refine Frame.seq (ps := [.interval, .soak, .events]) ?_
      (Frame.foldl (fun z t => frame_advanceZone t z) Zone.all _) (by decide)
    refine Frame.seq (ps := [.interval, .soak, .events]) ?_ (frame_advanceSoak _ .b) (by decide)
    exact (frame_withInterval s _).seq (frame_advanceSoak _ .a) (by decide)

/-! ### Beam Unit -/

theorem frame_withJets (c f : Option Nat) : Frame [.jets] s
  { s with beams := { s.beams with cutJet := c, faultJet := f } } :=
  .of_same rfl fun part => by cases part <;> simp [Part.same, State.segment, State.port]

theorem frame_testCut (o : OpenBeam) : Frame [.beam, .jets] s (s.testCut o) := by
  refine .ite (fun _ => .ite (fun _ => ?_) fun _ => ?_) fun _ => ?_
  · exact (frame_setBeam s _).mono (by decide)
  · exact (frame_setBeam s _).seq (frame_withJets _ _ _) (by decide)
  · exact (frame_setBeam s _).mono (by decide)

theorem frame_postPoints (old new : BeamPhase) : Frame [.events] s (s.postPoints old new) :=
  (frame_postIf s _ _).trans (frame_postIf _ _ _)

theorem frame_testPoints : Frame [.beam, .events] s s.testPoints := by
  unfold State.testPoints
  split
  · exact .refl _ s
  · exact (frame_setBeam s _).seq (frame_postPoints _ _ _) (by decide)

theorem frame_testOverrun : Frame [.beam, .events] s s.testOverrun := by
  unfold State.testOverrun
  split
  · exact .refl _ s
  · exact .ite (fun _ => (frame_setBeam s _).seq (frame_post _ _) (by decide)) fun _ => .refl _ s

theorem frame_woundMillimetre : Frame [.beam, .jets, .events] s s.woundMillimetre := by
  unfold State.woundMillimetre
  split
  · exact .refl _ s
  · refine .ite (fun _ => ?_) fun _ => .refl _ s
    exact ((frame_testCut s _).seq (rs := [.beam, .jets, .events]) (frame_testPoints _) (by decide)).seq
      (frame_testOverrun _) (by decide)

theorem frame_deliver (slot : Option MainRecord) : Frame [.beam, .events] s (s.deliver slot) := by
  unfold State.deliver
  split
  · exact .refl _ s
  · refine .ite (fun _ => .ite (fun _ => ?_) fun _ => ?_) fun _ => .refl _ s
    · exact (frame_setBeam s _).seq (frame_postIf _ _ _) (by decide)
    · exact (frame_setBeam s _).mono (by decide)

theorem frame_markerArrival (now replaced : Option MainRecord) : Frame [.jets] s (s.markerArrival now replaced) :=
  .ite (fun _ => .ite (fun _ => .refl _ s) fun _ => frame_withJets s _ _) fun _ => .refl _ s

theorem frame_closeBeam (o : OpenBeam) (reason : CloseReason) :
    Frame [.beam, .beamLists, .events] s (s.closeBeam o reason) := by
  refine Frame.seq (ps := [.beam, .beamLists]) ?_ (frame_post _ _) (by decide)
  exact .of_same rfl fun part => by cases part <;> simp [Part.same, State.segment, State.port]

/-! ### The boundary -/

/-- What a path clear can write. -/
def cleared : List Part := [.slots, .sequence, .pulses, .causes, .windows, .line]

theorem frame_pathClear : Frame cleared s s.pathClear := by
  rw [State.pathClear_eq]
  exact .of_same rfl fun part => by cases part <;> simp [cleared, Part.same, State.port]

theorem frame_takeSequence : Frame cleared s s.takeSequence := by
  have hnumber (t : State) : Frame [.sequence] t { t with path := { t.path with sequence := t.path.sequence + 1 } } :=
    .of_same rfl fun part => by cases part <;> simp [Part.same, State.segment, State.port]
  exact Frame.seq (ps := cleared) (.ite (fun _ => .refl _ s) fun _ => frame_pathClear s) (hnumber _) (by decide)

theorem frame_takeStretch : Frame [.line, .events] s s.takeStretch :=
  (frame_withLine s _).seq (frame_postIf _ _ _) (by decide)

theorem frame_openAtBoundary : Frame [.soak, .pulses, .causes] s (s.openAtBoundary x) :=
  .ite (fun _ => (frame_setSoak s x _).seq (frame_openSegment _ x _) (by decide)) fun _ =>
    (frame_openSegment s x _).mono (by decide)

theorem frame_closeSegment (stretch : Option Int) :
    Frame [.windows, .soak, .pulses, .causes] s (s.closeSegment x stretch).state :=
  (frame_setWindow s x _).seq (frame_openAtBoundary _ x) (by decide)

/-- What a boundary can write. -/
def bounded : List Part :=
  [.slots, .sequence, .pulses, .causes, .windows, .line, .soak, .jets, .beam, .events]

theorem frame_closeAll : Frame bounded s s.closeAll.2.2 := by
  have ha : Frame bounded s (s.takeSequence.takeStretch.closeSegment .a s.takeSequence.line.stretch).state := by
    refine Frame.seq (ps := bounded) ?_ (frame_closeSegment _ .a _) (by decide)
    exact (frame_takeSequence s).seq (frame_takeStretch _) (by decide)
  unfold State.closeAll
  dsimp only
  split
  · exact ha.seq (frame_closeSegment _ .b s.takeSequence.line.stretch) (by decide)
  · exact ha

theorem frame_shiftAll (recA recB : Option LaneRecord) : Frame [.slots] s (s.shiftAll recA recB) := by
  refine Frame.seq (ps := [.slots]) ?_ (frame_setMain _ _) (by decide)
  exact .ite (fun _ => (frame_setLane s .a _).trans (frame_setLane _ .b _)) fun _ => frame_setLane s .a _

theorem frame_gaugeArrival : Frame [.slots] s s.gaugeArrival := by
  unfold State.gaugeArrival
  split
  · exact frame_setMain s _
  · exact .refl _ s

theorem frame_arriveAll (delivered : Option MainRecord) :
    Frame [.slots, .jets, .beam, .events] s (s.arriveAll delivered) :=
  ((frame_gaugeArrival s).seq (rs := [.slots, .jets]) (frame_markerArrival _ _ _) (by decide)).seq
    (frame_deliver _ _) (by decide)

theorem frame_boundary : Frame bounded s s.boundary :=
  ((frame_closeAll s).seq (rs := bounded) (frame_shiftAll _ _ _) (by decide)).seq (frame_arriveAll _ _) (by decide)

theorem frame_trackMillimetre : Frame bounded s s.trackMillimetre := by
  have hcount : Frame bounded s ({ s with line := { s.line with track := s.line.track + 1 } } :
    State).woundMillimetre :=
    (frame_withLine s _).seq (frame_woundMillimetre _) (by decide)
  refine .ite (fun _ => hcount.seq (frame_withLine _ _) (by decide)) fun _ => ?_
  exact (hcount.seq (rs := bounded) (frame_withLine _ _) (by decide)).seq (frame_boundary _) (by decide)

theorem frame_trackMillimetres (n : Nat) : Frame bounded s (State.trackMillimetres n s) := by
  induction n generalizing s with
  | zero => exact .refl _ s
  | succ n ih => exact (frame_trackMillimetre s).trans (ih _)

/-- What a TRACK PULSE can write. -/
def pulsed : List Part :=
  [.slots, .sequence, .pulses, .causes, .windows, .line, .soak, .jets, .beam, .events, .interval, .zones, .rolls,
    .autoLift]

theorem frame_trackPulse : Frame pulsed s (trackPulse s) := by
  have hlength (t : State) : Frame bounded t t.countTrack := (frame_withLine t _).seq (frame_trackMillimetres _ _)
    (by decide)
  exact (frame_trackLineWork s).seq (hlength _) (by decide)

end operations

end Sys2Proof.Machine
end

section
namespace Sys2Proof.Machine

/-! ### The works of the masters' commands -/

section works
variable (s : State)

/-- What a switch of the active style can write. -/
def switched : List Part := [.active, .pendingStyle, .windows, .rolls, .soak, .causes]

theorem frame_switchStyle (i : StyleIndex) : Frame switched s (s.switchStyle i) := by
  refine Frame.seq (ps := [.active, .windows]) ?_ (frame_settleDepths _) (by decide)
  refine Frame.seq (ps := [.active]) ?_ (frame_emptyWindows _) (by decide)
  exact .of_same rfl fun part => by cases part <;> simp [Part.same, State.segment, State.port]

theorem frame_withPendingStyle (i : Option StyleIndex) : Frame [.pendingStyle] s { s with pendingStyle := i } :=
  .of_same rfl fun part => by cases part <;> simp [Part.same, State.segment, State.port]

theorem frame_applyPending : Frame switched s s.applyPending := by
  unfold State.applyPending
  split
  · exact .refl _ s
  · exact .ite (fun _ => (frame_withPendingStyle s none).mono (by decide)) fun _ =>
      (frame_withPendingStyle s none).seq (frame_switchStyle _ _) (by decide)

theorem frame_withBeamLists (p : List PlanEntry) (r : List BeamRecord) :
    Frame [.beamLists] s { s with beams := { s.beams with plan := p, store := r } } :=
  .of_same rfl fun part => by cases part <;> simp [Part.same, State.segment, State.port]

/-- What DOFF can write. -/
def doffed : List Part := [.beam, .beamLists, .events, .active, .pendingStyle, .windows, .rolls, .soak, .causes]

theorem frame_doffWork : Frame doffed s (doffWork s).state := by
  have hclosed : Frame [.beam, .beamLists, .events] s (match s.beams.current with
      | some o => s.closeBeam o .doff
      | none => s) := by
    split
    · exact frame_closeBeam s _ _
    · exact .refl _ s
  have hstyled := hclosed.seq (rs := doffed) (frame_applyPending _) (by decide)
  unfold doffWork
  split
  · exact .refl _ s
  · split
    · exact .refl _ s
    · split
      · exact .refl _ s
      · dsimp only
        split
        · exact .refl _ s
        · refine Frame.seq (ps := doffed) ?_ (frame_postIf _ _ _) (by decide)
          exact (hstyled.seq (rs := doffed) (frame_withBeamLists _ _ _) (by decide)).seq (frame_setBeam _ _)
            (by decide)

theorem frame_setTargetWork (m : Word) : Frame [.beam, .events] s (setTargetWork m s).state := by
  unfold setTargetWork
  split
  · exact .refl _ s
  · split
    · exact .refl _ s
    · exact (frame_setBeam s _).seq (frame_postPoints _ _ _) (by decide)

theorem frame_closeSetWork : Frame [.beam, .beamLists, .events] s (closeSetWork s).state := by
  unfold closeSetWork
  split
  · exact .refl _ s
  · split
    · exact .refl _ s
    · exact frame_closeBeam s _ _

theorem frame_moveRollWork (p : Port) (b m : Byte) (v : Word) :
    Frame [.rolls, .windows, .events] s (moveRollWork p b m v s).state := by
  unfold moveRollWork
  split
  · dsimp only
    split_ifs
    · exact .refl _ s
    · exact .refl _ s
    · exact .refl _ s
    · exact .refl _ s
    all_goals exact frame_startMove s _ p _
  all_goals exact .refl _ s

theorem frame_homeRollWork (p : Port) (b : Byte) :
    Frame [.rolls, .soak, .causes, .windows, .events] s (homeRollWork p b s).state := by
  unfold homeRollWork
  split
  · exact .refl _ s
  · split_ifs
    · exact .refl _ s
    · exact .refl _ s
    · exact .refl _ s
    · exact frame_startHome s _ p

theorem frame_collectWork (b : Byte) : Frame [.rolls] s (collectWork b s).state := by
  unfold collectWork
  split
  · exact .refl _ s
  · split
    · exact .refl _ s
    · exact frame_setRoll s _ _

theorem frame_resetFieldWork :
    Frame [.rolls, .soak, .causes, .events, .fieldReset, .jets] s (resetFieldWork s).state := by
  unfold resetFieldWork
  split
  · exact .refl _ s
  · have hstart : Frame [.fieldReset, .jets] s { s with
        boxes := { s.boxes with fieldReset := some Config.fieldResetPeriod }
        beams := { s.beams with cutJet := none, faultJet := none } } :=
      .of_same rfl fun part => by cases part <;> simp [Part.same, State.segment, State.port]
    refine Frame.seq (ps := [.rolls, .soak, .causes, .events, .fieldReset, .jets]) ?_ (frame_post _ _) (by decide)
    exact (hstart.seq (rs := [.rolls, .soak, .causes, .events, .fieldReset, .jets]) (frame_resetRoll _ .a)
      (by decide)).seq
      (frame_resetRoll _ .b) (by decide)

theorem frame_makeStale (x : Box) : Frame [.reports, .events] s (s.makeStale x) :=
  (frame_setReport s x _).seq (frame_postIf _ _ _) (by decide)

theorem frame_retestAge (x : Box) : Frame [.reports, .events] s (s.retestAge x) := by
  unfold State.retestAge
  split
  · exact .ite (fun _ => frame_makeStale s x) fun _ => .refl _ s
  all_goals exact .refl _ s

theorem frame_afterActuators : Frame [.pressure, .rolls, .soak, .causes, .events] s s.afterActuators := by
  have hlimit (p : PerBox PressureChannel) : Frame [.pressure] s { s with boxes := { s.boxes with pressure := p } } :=
    .of_same rfl fun part => by cases part <;> simp [Part.same, State.segment, State.port]
  refine Frame.seq (ps := [.pressure, .rolls, .soak, .causes]) ?_ (frame_postIf _ _ _) (by decide)
  exact ((hlimit _).seq (rs := [.pressure, .rolls, .soak, .causes]) (frame_checkTravel _ .a) (by decide)).seq
    (frame_checkTravel _ .b) (by decide)

/-- What the effects of a write of the geometry can write. -/
def regeometried : List Part := [.zones, .rolls, .soak, .slots, .sequence, .pulses, .causes, .windows, .line]

theorem frame_afterGeometry (before : State) : Frame regeometried s (s.afterGeometry before) := by
  refine Frame.seq (ps := [.zones, .rolls, .soak, .causes]) ?_ (frame_pathClear _) (by decide)
  refine Frame.seq (ps := [.zones, .rolls, .soak]) ?_ (frame_settleDepths _) (by decide)
  have hzones (z : PerZone ZoneChannel) : Frame [.zones] s { s with monitor := { s.monitor with zones := z } } :=
    .of_same rfl fun part => by cases part <;> simp [Part.same, State.segment, State.port]
  refine .ite (fun _ => (hzones _).mono (by decide)) fun _ => ?_
  exact ((hzones _).seq (rs := [.zones, .rolls, .soak]) (frame_setRoll _ .b _) (by decide)).seq
    (frame_setSoak _ .b _) (by decide)

/-- What WRITE MACHINE can write. -/
def machined : List Part :=
  [.machine, .zones, .rolls, .soak, .slots, .sequence, .pulses, .causes, .windows, .line, .reports, .pressure,
    .events]

theorem frame_withMachine (m : MachineTable) :
    Frame [.machine] s { s with settings := { s.settings with machine := m } } :=
  .of_same rfl fun part => by cases part <;> simp [Part.same, State.segment, State.port]

/-- The working copy with the machine table a write gives. -/
def State.withMachine (s : State) (w : MachineWrite) : State :=
  { s with settings := { s.settings with machine := w.apply s.settings.machine } }

/-- WRITE MACHINE does nothing, or the write has passed every check of R150 and its units take the new values. -/
theorem writeMachineWork_cases (w : MachineWrite) : (writeMachineWork w s).state = s
    ∨ (s.line.lineState = .stopped ∧ (w.isGeometry = true → s.beams.current = none)
        ∧ (w.needsRollsStill = true → (s.roll .a).state.inMotion = false ∧ (s.roll .b).state.inMotion = false)
        ∧ w.inRange = true ∧ w.takesBoxB s = false
        ∧ (writeMachineWork w s).state = w.effects s (s.withMachine w)) := by
  unfold writeMachineWork
  split_ifs with hunlisted hbusy hstop hopen hstill hrange hbox
  iterate 7 exact .inl rfl
  refine .inr ⟨not_not.mp hstop, fun hg => ?_, fun hn => ?_, by simpa using hrange, by simpa using hbox, rfl⟩
  · simpa [hg] using hopen
  · simpa [hn] using hstill

theorem frame_writeMachineWork (w : MachineWrite) : Frame machined s (writeMachineWork w s).state := by
  rcases writeMachineWork_cases s w with h | ⟨-, -, -, -, -, h⟩ <;> rw [h]
  · exact .refl _ s
  refine Frame.trans ((frame_withMachine s (w.apply s.settings.machine)).mono (by decide)) ?_
  cases w with
  | geometry g => exact (frame_afterGeometry _ s).mono (by decide)
  | measurement => exact (frame_retestAge _ .a).seq (frame_retestAge _ .b) (by decide)
  | actuators => exact (frame_afterActuators _).mono (by decide)
  | beam => exact .refl _ _
  | ports => exact .refl _ _
  | other => exact .refl _ _

theorem frame_writeStyleWork (p : Port) (w : StyleWrite) :
    Frame [.styles, .rolls, .soak, .causes] s (writeStyleWork p w s).state := by
  have hstyles (x : PerStyle Style) : Frame [.styles] s { s with settings := { s.settings with styles := x } } :=
    .of_same rfl fun part => by cases part <;> simp [Part.same, State.segment, State.port]
  unfold writeStyleWork
  dsimp only
  split_ifs
  · exact .refl _ s
  · exact .refl _ s
  · exact .refl _ s
  · exact .refl _ s
  · exact (hstyles _).seq (frame_settleDepths _) (by decide)
  · exact (hstyles _).mono (by decide)

theorem frame_activateStyleWork (b : Byte) : Frame switched s (activateStyleWork b s).state := by
  have hpend (i : Option StyleIndex) : Frame switched s { s with pendingStyle := i } :=
    (frame_withPendingStyle s i).mono (by decide)
  unfold activateStyleWork
  split
  · exact .refl _ s
  · split_ifs
    · exact .refl _ s
    · exact hpend none
    · exact .refl _ s
    · exact (hpend none).trans (frame_switchStyle _ _)
    · exact hpend _

theorem frame_writeRolesWork (p : Port) (r0 r1 r2 r3 : Byte) :
    Frame [.roles] s (writeRolesWork p r0 r1 r2 r3 s).state := by
  unfold writeRolesWork
  split
  · exact .refl _ s
  · split
    · exact .refl _ s
    · split
      · exact .refl _ s
      · exact .of_same rfl fun part => by cases part <;> simp [Part.same, State.segment, State.port]

theorem frame_withNv (n : NvStore) : Frame [.nv] s { s with nv := n } :=
  .of_same rfl fun part => by cases part <;> simp [Part.same, State.segment, State.port]

theorem frame_storeSettingsWork (p : Port) : Frame [.nv] s (storeSettingsWork p s).state := by
  unfold storeSettingsWork
  split
  · exact .refl _ s
  · exact frame_withNv s _

theorem frame_planAppendWork (n t c : Word) : Frame [.beamLists] s (planAppendWork n t c s).state := by
  unfold planAppendWork
  dsimp only
  split_ifs
  · exact .refl _ s
  · exact .refl _ s
  · exact frame_withBeamLists s _ _

theorem frame_releaseBeamWork (a : Byte) : Frame [.beamLists] s (releaseBeamWork a s).state := by
  unfold releaseBeamWork
  split
  · exact .refl _ s
  · split
    · exact .refl _ s
    · exact frame_withBeamLists s _ _

theorem frame_reportBoxWork (b : Byte) (c d : Word) : Frame [.reports] s (reportBoxWork b c d s).state := by
  unfold reportBoxWork
  split
  · exact .refl _ s
  · exact frame_setReport s _ _

theorem frame_zoneHeatWork (z b : Byte) : Frame [.zones] s (zoneHeatWork z b s).state := by
  unfold zoneHeatWork
  split
  · exact frame_setZone s _ _
  all_goals exact .refl _ s

theorem frame_setMask (p : Port) (m : EventSet) (k : Bool) :
    Frame [.masks] s (s.setPort p { s.port p with mask := m, keep := k }) :=
  .of_same rfl fun part => by
    cases part <;> simp [Part.same, State.setPort_reads PortUnit.events,
      State.setPort_reads PortUnit.snapshot, State.setPort_reads PortUnit.selected,
      State.setPort_reads PortUnit.state, State.setPort_reads PortUnit.rx, State.setPort_reads PortUnit.queued,
      State.setPort_reads PortUnit.inBreak, State.setPort_reads PortUnit.reply]

theorem frame_setSnapshot (p : Port) (c : Option Snapshot) :
    Frame [.snapshots] s (s.setPort p { s.port p with snapshot := c }) :=
  .of_same rfl fun part => by
    cases part <;> simp [Part.same, State.setPort_reads PortUnit.events, State.setPort_reads PortUnit.mask,
      State.setPort_reads PortUnit.keep, State.setPort_reads PortUnit.selected,
      State.setPort_reads PortUnit.state, State.setPort_reads PortUnit.rx, State.setPort_reads PortUnit.queued,
      State.setPort_reads PortUnit.inBreak, State.setPort_reads PortUnit.reply]

theorem frame_select (p : Port) (i : StyleIndex) : Frame [.selections] s (s.select p i) :=
  .of_same rfl fun part => by
    cases part <;> simp [State.select, Part.same, State.setPort_reads PortUnit.events,
      State.setPort_reads PortUnit.mask, State.setPort_reads PortUnit.keep, State.setPort_reads PortUnit.snapshot,
      State.setPort_reads PortUnit.state, State.setPort_reads PortUnit.rx, State.setPort_reads PortUnit.queued,
      State.setPort_reads PortUnit.inBreak, State.setPort_reads PortUnit.reply]

theorem frame_setAttentionMaskWork (p : Port) (m : Word) (k : Byte) :
    Frame [.masks] s (setAttentionMaskWork p m k s).state := by
  unfold setAttentionMaskWork
  split
  · exact .refl _ s
  · exact frame_setMask s p _ _

theorem frame_selectStyleWork (p : Port) (b : Byte) : Frame [.selections] s (selectStyleWork p b s).state := by
  unfold selectStyleWork
  split
  · exact .refl _ s
  · exact frame_select s p _

theorem frame_snapWork (p : Port) (source age : Byte) : Frame [.snapshots] s (snapWork p source age s).state := by
  unfold snapWork
  split_ifs
  · split
    · exact frame_setSnapshot s p _
    · exact .refl _ s
  · exact .refl _ s
  · split
    · exact frame_setSnapshot s p _
    · exact .refl _ s
  · exact frame_setSnapshot s p _
  · exact .refl _ s

theorem readSnapWork_state (p : Port) (part start : Byte) : (readSnapWork p part start s).state = s := by
  unfold readSnapWork
  split
  · rfl
  · split
    · rfl
    · split
      · rfl
      · split <;> split <;> rfl

theorem readStyleWork_state (p : Port) (g : Byte) : (readStyleWork p g s).state = s := by
  unfold readStyleWork
  dsimp only
  split <;> rfl

theorem readMachineWork_state (g : Byte) : (readMachineWork g s).state = s := by
  unfold readMachineWork
  split <;> rfl

theorem frame_clearPathWork : Frame cleared s (clearPathWork s).state := by
  unfold clearPathWork
  split
  · exact frame_pathClear s
  · exact .refl _ s

theorem findWork_state (l : Byte) (p : Word) (f m : Byte) (v : Long) : (findWork l p f m v s).state = s := by
  unfold findWork
  split
  · rfl
  · split
    · rfl
    · split <;> rfl

theorem readSegmentWork_state (l : Byte) (p : Word) : (readSegmentWork l p s).state = s := by
  unfold readSegmentWork
  split
  · rfl
  · split
    · rfl
    · dsimp only
      split <;> rfl

end works

/-! ### A master's command by its work -/

end Sys2Proof.Machine

namespace Sys2Proof
open Machine

/-- The own work of a master's command, past the common checks; a frame that spells none is refused INVALID. -/
def Instr.work : Instr → State → Served
  | .readStatus _ => readStatusWork
  | .readSegment _ l p => readSegmentWork l p
  | .find _ l p f m v => findWork l p f m v
  | .selectStyle h i => selectStyleWork h.port i
  | .readStyle h g => readStyleWork h.port g
  | .readMachine _ g => readMachineWork g
  | .exchangeEvents h c => exchangeEventsWork h.port c
  | .setAttentionMask h m k => setAttentionMaskWork h.port m k
  | .snap h a b => snapWork h.port a b
  | .readSnap h a b => readSnapWork h.port a b
  | .doff _ => doffWork
  | .closeSet _ => closeSetWork
  | .setTarget _ m => setTargetWork m
  | .clearPath _ => clearPathWork
  | .moveRoll h b m v => moveRollWork h.port b m v
  | .homeRoll h b => homeRollWork h.port b
  | .collect _ b => collectWork b
  | .resetField _ => resetFieldWork
  | .reportBox _ b c d => reportBoxWork b c d
  | .zoneHeat _ z b => zoneHeatWork z b
  | .writeStyle h w => writeStyleWork h.port w
  | .activateStyle _ i => activateStyleWork i
  | .writeMachine _ w => writeMachineWork w
  | .writeRoles h r0 r1 r2 r3 => writeRolesWork h.port r0 r1 r2 r3
  | .storeSettings h => storeSettingsWork h.port
  | .planAppend _ n t c => planAppendWork n t c
  | .planClear _ => planClearWork
  | .releaseBeam _ a => releaseBeamWork a
  | _ => fun s => .plain s .invalid

/-- What the own work of a master's command can write. -/
def Instr.workWrites : Instr → List Part
  | .selectStyle .. => [.selections]
  | .exchangeEvents .. => [.events, .taken]
  | .setAttentionMask .. => [.masks]
  | .snap .. => [.snapshots]
  | .doff .. => doffed
  | .closeSet .. => [.beam, .beamLists, .events]
  | .setTarget .. => [.beam, .events]
  | .clearPath .. => cleared
  | .moveRoll .. => [.rolls, .windows, .events]
  | .homeRoll .. => [.rolls, .soak, .causes, .windows, .events]
  | .collect .. => [.rolls]
  | .resetField .. => [.rolls, .soak, .causes, .events, .fieldReset, .jets]
  | .reportBox .. => [.reports]
  | .zoneHeat .. => [.zones]
  | .writeStyle .. => [.styles, .rolls, .soak, .causes]
  | .activateStyle .. => switched
  | .writeMachine .. => machined
  | .writeRoles .. => [.roles]
  | .storeSettings .. => [.nv]
  | .planAppend .. | .planClear .. | .releaseBeam .. => [.beamLists]
  | _ => []

end Sys2Proof

namespace Sys2Proof.Machine

theorem frame_work (c : Instr) (s : State) : Frame c.workWrites s (c.work s).state := by
  cases c
  case selectStyle h i => exact frame_selectStyleWork s h.port i
  case exchangeEvents h m => exact frame_setEvents s h.port _
  case setAttentionMask h m k => exact frame_setAttentionMaskWork s h.port m k
  case snap h a b => exact frame_snapWork s h.port a b
  case doff => exact frame_doffWork s
  case closeSet => exact frame_closeSetWork s
  case setTarget h m => exact frame_setTargetWork s m
  case clearPath => exact frame_clearPathWork s
  case moveRoll h b m v => exact frame_moveRollWork s h.port b m v
  case homeRoll h b => exact frame_homeRollWork s h.port b
  case collect h b => exact frame_collectWork s b
  case resetField => exact frame_resetFieldWork s
  case reportBox h b c d => exact frame_reportBoxWork s b c d
  case zoneHeat h z b => exact frame_zoneHeatWork s z b
  case writeStyle h w => exact frame_writeStyleWork s h.port w
  case activateStyle h i => exact frame_activateStyleWork s i
  case writeMachine h w => exact frame_writeMachineWork s w
  case writeRoles h r0 r1 r2 r3 => exact frame_writeRolesWork s h.port r0 r1 r2 r3
  case storeSettings h => exact frame_storeSettingsWork s h.port
  case planAppend h n t c => exact frame_planAppendWork s n t c
  case planClear => exact frame_withBeamLists s _ _
  case releaseBeam h a => exact frame_releaseBeamWork s a
  case readSegment h l p => rw [Instr.work, readSegmentWork_state]; exact .refl _ s
  case find h l p f m v => rw [Instr.work, findWork_state]; exact .refl _ s
  case readSnap h a b => rw [Instr.work, readSnapWork_state]; exact .refl _ s
  case readStyle h g => rw [Instr.work, readStyleWork_state]; exact .refl _ s
  case readMachine h g => rw [Instr.work, readMachineWork_state]; exact .refl _ s
  all_goals exact .refl _ s

/-- A listed command of a master is its own work behind the engine's checks. -/
theorem exec_request {c : Instr} {h : Hdr} {k : CmdKind} (hr : request c = some (h, k)) (s : State) :
    exec c s = run h c.frame k c.work s := by
  cases c <;> simp only [request, Option.some.injEq, Prod.mk.injEq, reduceCtorEq] at hr
  all_goals obtain ⟨rfl, rfl⟩ := hr; rfl

end Sys2Proof.Machine
end

section
namespace Sys2Proof.Machine

/-! ### Ports, arbiter and store -/

section ports
variable (s : State) (p : Port)

theorem frame_withArbiter (a : Arbiter) : Frame [.arbiter] s { s with arbiter := a } :=
  .of_same rfl fun part => by cases part <;> simp [Part.same, State.segment, State.port]

theorem frame_discardFrame (f : RxFrame) : Frame [.stages] s (s.setPort p ((s.port p).discardFrame f)) := by
  unfold PortUnit.discardFrame
  split <;> exact frame_setStage s p _ _ _ _ _

theorem frame_frameClean (f : RxFrame) : Frame [.stages, .arbiter] s (s.frameClean p f) := by
  refine .ite (fun _ => (frame_discardFrame s p f).mono (by decide)) fun _ => ?_
  exact .ite (fun _ => (frame_setStage s p _ _ _ _ _).seq (frame_withArbiter _ _) (by decide)) fun _ =>
    (frame_setStage s p _ _ _ _ _).mono (by decide)

theorem frame_frameBad (f : RxFrame) (byGap : Bool) : Frame [.stages] s (s.frameBad p f byGap) :=
  .ite (fun _ => frame_discardFrame s p f) fun _ => frame_setStage s p _ _ _ _ _

theorem frame_frameOver : Frame [.stages, .events] s (s.frameOver p) := by
  have hdrop := frame_setStage s p (s.port p).state none (s.port p).queued (s.port p).inBreak (s.port p).reply
  exact .ite (fun _ => hdrop.mono (by decide)) fun _ => hdrop.seq (frame_postTo _ p .overlap) (by decide)

/-- What the end of a received frame can write. -/
def received : List Part := [.stages, .arbiter, .events]

theorem frame_endFrame (f : RxFrame) (byGap : Bool) : Frame received s (s.endFrame p f byGap) :=
  .ite (fun _ => (frame_frameOver s p).mono (by decide)) fun _ =>
    .ite (fun _ => (frame_frameClean s p f).mono (by decide)) fun _ => (frame_frameBad s p f byGap).mono (by decide)

theorem frame_frameComplete : Frame received s (frameComplete p s) := by
  unfold frameComplete
  split
  · exact .ite (fun _ => (frame_frameClean s p _).mono (by decide)) fun _ => .refl _ s
  · exact .refl _ s

theorem frame_frameInError : Frame received s (frameInError p s) := by
  unfold frameInError
  split
  · exact .ite (fun _ => (frame_frameBad s p _ false).mono (by decide)) fun _ => .refl _ s
  · exact .refl _ s

theorem frame_frameOverlap : Frame received s (frameOverlap p s) := by
  unfold frameOverlap
  split
  · exact .ite (fun _ => (frame_frameOver s p).mono (by decide)) fun _ => .refl _ s
  · exact .refl _ s

theorem frame_gapLimitExpiry : Frame received s (gapLimitExpiry p s) := by
  unfold gapLimitExpiry
  split
  · exact .ite (fun _ => frame_endFrame s p _ true) fun _ => .refl _ s
  · exact .refl _ s

theorem frame_settleFrame : Frame received s (s.settleFrame p) := by
  unfold State.settleFrame
  split
  · exact frame_endFrame s p _ false
  · exact .refl _ s

theorem frame_take (char : Byte) (parity framing : Bool) :
    Frame [.stages] s (s.setPort p ((s.port p).take char parity framing)) := by
  have hkeep := frame_setStage s p (s.port p).state (s.port p).rx (s.port p).queued (s.port p).inBreak
    (s.port p).reply
  unfold PortUnit.take
  split
  · split
    · exact frame_setStage s p _ _ _ _ _
    · exact hkeep
  · exact frame_setStage s p _ _ _ _ _

theorem frame_characterReceived (char : Byte) (parity framing : Bool) :
    Frame received s (characterReceived p char parity framing s) :=
  .ite (fun _ => (frame_settleFrame s p).seq (frame_take _ p char parity framing) (by decide)) fun _ => .refl _ s

theorem frame_dropLock : Frame [.arbiter] s (s.dropLock p) :=
  .ite (fun _ => frame_withArbiter s _) fun _ => .refl _ s

theorem frame_lineBreak :
    Frame [.events, .taken, .masks, .snapshots, .selections, .stages, .arbiter] s (lineBreak p s) :=
  .ite (fun _ => (frame_setPort s p _).seq (frame_dropLock _ p) (by decide)) fun _ => .refl _ s

theorem frame_replySent : Frame [.stages, .arbiter] s (replySent p s) := by
  unfold replySent
  split
  · exact .refl _ s
  · refine .ite (fun _ => (frame_setStage s p _ _ _ _ _).mono (by decide)) fun _ => ?_
    refine (frame_setStage s p _ _ _ _ _).seq (Frame.ite (ps := [.arbiter]) (fun _ => ?_) fun _ => .refl _ _)
      (by decide)
    exact frame_withArbiter _ _

theorem frame_lockGapExpiry : Frame [.arbiter, .events] s (lockGapExpiry s) := by
  unfold lockGapExpiry
  split
  · exact (frame_withArbiter s _).seq (frame_postTo _ _ _) (by decide)
  all_goals exact .refl _ s

theorem frame_storeEnd : Frame [.nv, .events] s (storeEnd s) := by
  unfold storeEnd
  split
  · exact .refl _ s
  · exact (frame_withNv s _).seq (frame_postTo _ _ _) (by decide)

theorem frame_retentionMarkWrite : Frame [.supply, .nv] s (retentionMarkWrite s) :=
  .of_same rfl fun part => by cases part <;> simp [retentionMarkWrite, Part.same, State.segment, State.port]

/-! ### The engine -/

theorem frame_grant : Frame [.stages, .arbiter] s (s.grant p) :=
  (frame_setStage s p .executing (s.port p).rx [] (s.port p).inBreak (s.port p).reply).seq (frame_withArbiter _ _)
    (by decide)

theorem frame_reply (tag : Byte) (status : Status) (data : List Byte) : Frame [.stages] s
  (s.reply p tag status data) :=
  frame_setStage s p _ _ _ _ _

theorem frame_answer (h : Hdr) (r : Served) : Frame [.stages, .arbiter] r.state (answer h r) :=
  (frame_reply r.state h.port h.tag r.status r.data).seq (frame_withArbiter _ _) (by decide)

theorem frame_offer (frame : List Byte) : Frame received s (s.offer p frame) := by
  refine .ite (fun _ => .refl _ s) fun _ => ?_
  split
  · exact (frame_setStage s p _ _ _ _ _).mono (by decide)
  · exact (frame_postTo s p _).mono (by decide)
  all_goals exact .refl _ s

theorem frame_whenRunning {ps : List Part} {f : State → State} (h : Frame ps s (f s)) :
    Frame ps s (s.whenRunning f) := .ite (fun _ => h) fun _ => .refl _ s

/-- A master's command writes what its work writes, and its answer. -/
theorem frame_serve (h : Hdr) (frame : List Byte) {checked : State → Served} {ps : List Part}
    (hc : ∀ g, Frame ps g (checked g).state) : Frame (received ++ ps) s (serve h frame checked s) := by
  have hreceived : received.all (· ∈ received ++ ps) = true :=
    List.all_eq_true.mpr fun x hx => decide_eq_true (List.mem_append_left ps hx)
  have hengine {u v : State} (hf : Frame [.stages, .arbiter] u v) : Frame (received ++ ps) u v :=
    (hf.mono (qs := received) (by decide)).mono hreceived
  refine frame_whenRunning s (.ite (fun _ => .refl _ s) fun _ => .ite (fun _ => ?_) fun _ => ?_)
  · exact (frame_offer s h.port frame).mono hreceived
  · refine ((hengine (frame_grant s h.port)).trans ((hc _).mono ?_)).trans (hengine (frame_answer h _))
    exact List.all_eq_true.mpr fun x hx => decide_eq_true (List.mem_append_right received hx)

theorem frame_engine (h : Hdr) (k : CmdKind) {work : State → Served} {ps : List Part} (g : State)
    (hw : Frame ps g (work g).state) : Frame ps g (engine h k work g).state := by
  rcases engine_cases h k work g with he | he | he <;> rw [he]
  · exact .refl _ g
  · exact .refl _ g
  · exact hw

end ports

/-! ### Starts and the passing of time -/

/-- All that a start writes: every part but the HOME SWITCH levels. -/
def started : List Part :=
  [.supply, .line, .slots, .sequence, .pulses, .causes, .windows, .reports, .interval, .soak, .zones, .gauge,
    .pressure, .rolls, .autoLift, .fieldReset, .beam, .jets, .beamLists, .machine, .styles, .active, .roles,
    .pendingStyle, .nv, .events, .taken, .masks, .snapshots, .selections, .stages, .arbiter]

theorem frame_startCommon (s : State) (kind : StartKind) : Frame started s (s.startCommon kind) :=
  .of_same rfl fun part => by cases part <;> simp [started, Part.same, State.startCommon]

/-- What a COLD or NV_LOST start writes beside the common part. -/
def colded : List Part :=
  [.line, .slots, .sequence, .pulses, .causes, .windows, .reports, .soak, .beam, .beamLists, .pendingStyle]

theorem frame_startCold (s : State) : Frame colded s s.startCold := by
  refine Frame.trans ?_ ((frame_pathClear _).mono (by decide))
  exact .of_same rfl fun part => by cases part <;> simp [colded, Part.same, State.segment, State.port]

theorem frame_warmSoak (s : State) (x : Box) : Frame [.soak] s (s.warmSoak x) :=
  .ite (fun _ => frame_setSoak s x _) fun _ => .refl _ s

/-- What a WARM start writes beside the common part. -/
def warmed : List Part := [.slots, .soak, .reports, .causes, .beam]

/-- The reports as a WARM start leaves them. -/
def State.warmReports (s : State) : State :=
  { s with addOn := { s.addOn with reports := ⟨s.addOn.reports.a.warm, s.addOn.reports.b.warm⟩ } }

/-- The records of every zone, with the POWERSTOP a WARM start adds. -/
def State.powerStamped (s : State) : State := Zone.all.foldl (fun t z => t.addToZone z Cause.powerstop.set 0) s

/-- DEPTH_UNKNOWN on the open segments of the boxes in use. -/
def State.depthsUnknown (s : State) : State :=
  (s.addCausesInUse .a Cause.depthUnknown.set).addCausesInUse .b Cause.depthUnknown.set

/-- The RETAINED mark of an open beam. -/
def State.retainBeam (s : State) : State :=
  match s.beams.current with
  | none => s
  | some o => s.setBeam (some (o.withRecord { o.record with retained := true }))

theorem startWarm_eq (s : State) :
    s.startWarm = ((s.powerStamped.warmSoak .a).warmSoak .b).warmReports.depthsUnknown.retainBeam := by
  unfold State.startWarm State.retainBeam State.depthsUnknown State.warmReports State.powerStamped
  rfl

theorem frame_powerStamped (s : State) : Frame [.slots] s s.powerStamped :=
  Frame.foldl (fun z t => frame_addToZone t z Cause.powerstop.set 0) Zone.all s

theorem frame_warmReports (s : State) : Frame [.reports] s s.warmReports :=
  .of_same rfl fun part => by cases part <;> simp [State.warmReports, Part.same, State.segment, State.port]

theorem frame_depthsUnknown (s : State) : Frame [.causes] s s.depthsUnknown :=
  (frame_addCausesInUse s .a _).trans (frame_addCausesInUse _ .b _)

theorem frame_retainBeam (s : State) : Frame [.beam] s s.retainBeam := by
  unfold State.retainBeam
  split
  · exact .refl _ s
  · exact frame_setBeam s _

theorem frame_startWarm (s : State) : Frame warmed s s.startWarm := by
  have hsoak (t : State) : Frame [.soak] t ((t.warmSoak .a).warmSoak .b) :=
    (frame_warmSoak t .a).trans (frame_warmSoak _ .b)
  rw [startWarm_eq]
  refine Frame.seq (ps := [.slots, .soak, .reports, .causes]) ?_ (frame_retainBeam _) (by decide)
  refine Frame.seq (ps := [.slots, .soak, .reports]) ?_ (frame_depthsUnknown _) (by decide)
  exact ((frame_powerStamped s).seq (rs := [.slots, .soak]) (hsoak _) (by decide)).seq (frame_warmReports _)
    (by decide)

theorem frame_cardStart (retain : Bool) (s : State) : Frame started s (cardStart retain s) := by
  have hcommon (kind : StartKind) : Frame started s (s.startCommon kind).startAutoLift :=
    (frame_startCommon s kind).seq (frame_withAutoLift _ _) (by decide)
  unfold cardStart
  cases s.startKindFor retain
  · exact (hcommon _).seq (frame_startCold _) (by decide)
  · exact (hcommon _).seq (frame_startWarm _) (by decide)
  · exact (hcommon _).seq (frame_startCold _) (by decide)

end Sys2Proof.Machine

/-! ### The footprint of every command -/

namespace Sys2Proof
open Machine

/-- The parts a command can write. -/
def Instr.writes : Instr → List Part
  | .trackPulse => pulsed
  | .feedPulse => [.line]
  | .liquorPulse _ => [.pulses]
  | .homeSwitchActive .. => [.homeSwitch, .rolls, .soak, .causes, .events]
  | .gaugeSample _ => [.gauge, .events]
  | .standstillTimeout => announced
  | .intervalTimerExpiry => [.interval, .soak, .zones, .slots, .events]
  | .rampTimerExpiry => [.pressure]
  | .ageTimerExpiry _ => [.reports, .events]
  | .autoLiftExpiry => [.autoLift, .rolls, .windows, .events]
  | .fieldResetExpiry => [.fieldReset]
  | .rollStep _ => [.rolls, .soak, .causes, .events]
  | .jetTimerExpiry _ => [.jets]
  | .lockGapExpiry => [.arbiter, .events]
  | .gapLimitExpiry _ | .frameComplete _ | .frameInError _ | .frameOverlap _ | .characterReceived .. => received
  | .lineBreak _ => [.events, .taken, .masks, .snapshots, .selections, .stages, .arbiter]
  | .replySent _ => [.stages, .arbiter]
  | .storeEnd => [.nv, .events]
  | .retentionMarkWrite => [.supply, .nv]
  | .cardStart _ => started
  | .startUpHoldEnd => [.supply]
  | .markConditionReturn _ => [.stages]
  | c => received ++ c.workWrites

end Sys2Proof

namespace Sys2Proof.Machine

theorem frame_request {c : Instr} {h : Hdr} {k : CmdKind} (hr : request c = some (h, k)) (s : State) :
    ∃ t, exec c s = .next t ∧ Frame (received ++ c.workWrites) s t := by
  rw [exec_request hr]
  exact ⟨_, rfl, frame_serve s h c.frame fun g => frame_engine h k g (frame_work c g)⟩

/-- Every command has a next state, and writes at most its own parts. -/
theorem exec_frame (c : Instr) (s : State) : ∃ t, exec c s = .next t ∧ Frame c.writes s t := by
  cases c
  case trackPulse => exact ⟨_, rfl, frame_whenRunning s (frame_trackPulse s)⟩
  case feedPulse => exact ⟨_, rfl, frame_whenRunning s (frame_withLine s _)⟩
  case liquorPulse x =>
    refine ⟨_, rfl, frame_whenRunning s (.ite (fun _ => ?_) fun _ => .refl _ s)⟩
    refine .of_same rfl fun part => ?_
    cases part <;> simp [Instr.writes, Part.same]
    intro y
    by_cases h : y = x
    · subst h; simp
    · rw [State.segment_setSegment_ne s _ h]
  case homeSwitchActive x level =>
    exact ⟨_, rfl, .ite (fun _ => frame_homeSwitchActive s x level) fun _ =>
      (frame_noteSwitch s x level).mono (by simp [Instr.writes])⟩
  case gaugeSample i =>
    refine ⟨_, rfl, frame_whenRunning s ?_⟩
    show Frame [.gauge, .events] s (gaugeSample i s)
    have hgauge (g : GaugeState) (r : Option Nat) :
        Frame [.gauge] s { s with monitor := { s.monitor with gauge := g, regain := r, sampleTimer := 0 } } :=
      .of_same rfl fun part => by cases part <;> simp [Part.same, State.segment, State.port]
    unfold gaugeSample
    split
    · exact (hgauge _ _).mono (by decide)
    · exact (hgauge _ _).seq (frame_postIf _ _ _) (by decide)
  case standstillTimeout => exact ⟨_, rfl, frame_whenRunning s (frame_standstillTimeout s)⟩
  case intervalTimerExpiry => exact ⟨_, rfl, frame_whenRunning s (frame_intervalTimerExpiry s)⟩
  case rampTimerExpiry =>
    exact ⟨_, rfl, frame_whenRunning s (.of_same rfl fun part => by
      cases part <;> simp [Instr.writes, rampTimerExpiry, Part.same, State.segment, State.port])⟩
  case ageTimerExpiry x =>
    exact ⟨_, rfl, frame_whenRunning s (.ite (fun _ => frame_makeStale s x) fun _ => .refl _ s)⟩
  case autoLiftExpiry => exact ⟨_, rfl, frame_whenRunning s (frame_autoLiftExpiry s)⟩
  case fieldResetExpiry =>
    exact ⟨_, rfl, frame_whenRunning s (.of_same rfl fun part => by
      cases part <;> simp [Instr.writes, fieldResetExpiry, Part.same, State.segment, State.port])⟩
  case rollStep x => exact ⟨_, rfl, frame_whenRunning s (frame_rollStep s x)⟩
  case jetTimerExpiry jet =>
    exact ⟨_, rfl, frame_whenRunning s (by cases jet <;> exact frame_withJets s _ _)⟩
  case lockGapExpiry => exact ⟨_, rfl, frame_whenRunning s (frame_lockGapExpiry s)⟩
  case gapLimitExpiry p => exact ⟨_, rfl, frame_whenRunning s (frame_gapLimitExpiry s p)⟩
  case frameComplete p => exact ⟨_, rfl, frame_whenRunning s (frame_frameComplete s p)⟩
  case frameInError p => exact ⟨_, rfl, frame_whenRunning s (frame_frameInError s p)⟩
  case frameOverlap p => exact ⟨_, rfl, frame_whenRunning s (frame_frameOverlap s p)⟩
  case lineBreak p => exact ⟨_, rfl, frame_whenRunning s (frame_lineBreak s p)⟩
  case replySent p => exact ⟨_, rfl, frame_whenRunning s (frame_replySent s p)⟩
  case storeEnd => exact ⟨_, rfl, frame_whenRunning s (frame_storeEnd s)⟩
  case retentionMarkWrite => exact ⟨_, rfl, frame_whenRunning s (frame_retentionMarkWrite s)⟩
  case cardStart retain => exact ⟨_, rfl, frame_cardStart retain s⟩
  case startUpHoldEnd =>
    exact ⟨_, rfl, frame_whenRunning s (.of_same rfl fun part => by
      cases part <;> simp [Instr.writes, startUpHoldEnd, Part.same, State.segment, State.port])⟩
  case characterReceived p b e f => exact ⟨_, rfl, frame_whenRunning s (frame_characterReceived s p b e f)⟩
  case markConditionReturn p => exact ⟨_, rfl, frame_whenRunning s (frame_setStage s p _ _ _ _ _)⟩
  case unknownCommandCode h _ _ _ => exact ⟨_, rfl, frame_serve s h _ fun g => .refl [] g⟩
  all_goals exact frame_request rfl s

/-- The state a command leaves differs from the one before in the parts the command writes alone. -/
theorem exec_keeps {c : Instr} {s t : State} (h : exec c s = .next t) : Frame c.writes s t := by
  obtain ⟨u, hu, hf⟩ := exec_frame c s
  cases hu.symm.trans h
  exact hf

/-- Settles O3: the footprint of every command, which never holds the queue. -/
theorem everyCommandHasANextState : Obligations.EveryCommandHasANextState := by
  intro c s
  obtain ⟨t, ht, hf⟩ := exec_frame c s
  exact ⟨t, ht, hf.1⟩

end Sys2Proof.Machine
end

section
/-! The invariants over a step: a statement that reads some parts of the state alone is kept by every command that
writes none of them, so that its proof looks at the other commands. -/

namespace Sys2Proof.Machine

/-! ### What an invariant reads -/

/-- A predicate that reads the listed parts alone: where two states agree in them, it passes from one to the other. -/
def Reads (ps : List Part) (P : State → Prop) : Prop := ∀ s t, (∀ part ∈ ps, part.same s t) → P s → P t

/-- No part of the first list stands in the second. -/
def apart (ps ws : List Part) : Bool := ps.all (· ∉ ws)

section reads
variable {ps : List Part} {P : State → Prop} {s t : State}

/-- What writes none of the parts a predicate reads keeps it. -/
theorem Reads.of_frame {ws : List Part} (hr : Reads ps P) (hf : Frame ws s t) (ha : apart ps ws = true) (h : P s) :
    P t :=
  hr s t (fun part hp => hf.2 part (by simpa using List.all_eq_true.mp ha part hp)) h

/-- A command that writes none of the parts a predicate reads keeps it. -/
theorem Reads.of_exec {c : Instr} (hr : Reads ps P) (hc : exec c s = .next t) (ha : apart ps c.writes = true)
    (h : P s) : P t := hr.of_frame (exec_keeps hc) ha h

theorem whenRunning_keeps {f : State → State} (hf : P s → P (f s)) (h : P s) : P (s.whenRunning f) := by
  unfold State.whenRunning
  split
  · exact hf h
  · exact h

/-- A master's command keeps what its own work on the granted state keeps and the engine does not write. -/
theorem Reads.of_request {c : Instr} {h : Hdr} {k : CmdKind} (hr : Reads ps P) (hq : request c = some (h, k))
    (ha : apart ps received = true) (hc : exec c s = .next t)
    (hw : P (s.grant h.port) → P (c.work (s.grant h.port)).state) (hs : P s) : P t := by
  rw [exec_request hq] at hc
  cases hc
  refine whenRunning_keeps (fun hs => ?_) hs
  split
  · exact hs
  · split
    · exact hr.of_frame (frame_offer s h.port c.frame) ha hs
    · have hengine {u v : State} (hf : Frame [.stages, .arbiter] u v) : P u → P v :=
        hr.of_frame (hf.mono (qs := received) (by decide)) ha
      have hgranted := hengine (frame_grant s h.port) hs
      refine hengine (frame_answer h _) ?_
      rcases engine_cases h k c.work (s.grant h.port) with he | he | he <;> rw [he]
      · exact hgranted
      · exact hgranted
      · exact hw hgranted

end reads

/-! ### A step -/

/-- A step leaves the card as it is, lets one microsecond pass, or runs a command on a state that differs at most in
the queue and the count of free values. -/
theorem step_cases {s t : State} (h : step s = .next t) : t = s ∨ t = s.tick
    ∨ ∃ c u, (∀ part : Part, part ≠ .supply → part.same s u) ∧ exec c u = .next t := by
  unfold step at h
  split at h
  · next c rest _ =>
    refine .inr (.inr ⟨c, _, fun part _ => ?_, h⟩)
    cases part <;> simp [Part.same, State.segment, State.port]
  · unfold idle at h
    split at h
    · cases h; exact .inl rfl
    · split at h
      · next c _ =>
        exact .inr (.inr ⟨c, _, fun part hp => (frame_drawFree s).2 part (by simpa using hp), h⟩)
      · cases h; exact .inr (.inl rfl)

/-- An invariant that every command and the microsecond keep, under a second that reads the settings' parts, is
kept by every step. -/
theorem step_keeps {ps qs : List Part} {P Q : State → Prop} (hP : Reads ps P) (hQ : Reads qs Q)
    (hp : apart ps [.supply] = true) (hq : apart qs [.supply] = true)
    (hexec : ∀ c s t, P s → Q s → exec c s = .next t → Q t) (htick : ∀ s, Q s → Q s.tick) {s t : State}
    (hs : P s) (h : Q s) (hstep : step s = .next t) : Q t := by
  have hmove {rs : List Part} {R : State → Prop} (hR : Reads rs R) (hr : apart rs [.supply] = true) {u : State}
      (hu : ∀ part : Part, part ≠ .supply → part.same s u) : R s → R u :=
    hR s u fun part hin => hu part (by simpa using List.all_eq_true.mp hr part hin)
  rcases step_cases hstep with rfl | rfl | ⟨c, u, hu, hc⟩
  · exact h
  · exact htick s h
  · exact hexec c u t (hmove hP hp hu hs) (hmove hQ hq hu h) hc

end Sys2Proof.Machine
end

section
namespace Sys2Proof.Machine

/-! ### Settings in range (R126, R129, R150, R151) -/

theorem Settings.legal_iff (x : Settings) : x.legal = true ↔ x.machine.legal = true
    ∧ (∀ i, (x.styles.get i).legal = true) ∧ hasStation x.roles = true := by
  have hall : (∀ i, (x.styles.get i).legal = true) ↔ x.styles.s0.legal = true ∧ x.styles.s1.legal = true
      ∧ x.styles.s2.legal = true ∧ x.styles.s3.legal = true :=
    ⟨fun h => ⟨h 0, h 1, h 2, h 3⟩, fun ⟨h0, h1, h2, h3⟩ i => match i with
      | 0 => h0 | 1 => h1 | 2 => h2 | 3 => h3⟩
  rw [hall]
  simp only [Settings.legal, Bool.and_eq_true]
  tauto

theorem factorySettings_legal : factorySettings.legal = true := by decide

/-- The points of a write, as stored. -/
def RawPoint.point (p : RawPoint) : CurvePoint := ⟨p.speed.toNat, p.pressure.toNat⟩

theorem curveIncreases_points (ps : List RawPoint) : curveIncreases (ps.map RawPoint.point) = speedsIncrease ps := by
  induction ps with
  | nil => rfl
  | cons p ps ih => cases ps with
    | nil => rfl
    | cons q ps => simp only [List.map_cons, curveIncreases, speedsIncrease, ← ih]; rfl

theorem curveLegal_points {x : Box} {ps : List RawPoint} (h : (StyleWrite.curve x ps).inRange = true) :
    curveLegal (ps.map RawPoint.point) = true := by
  simp only [StyleWrite.inRange, Bool.and_eq_true] at h
  simp only [curveLegal, curveIncreases_points, List.length_map, List.all_map, Bool.and_eq_true]
  exact h

/-- A whole group in its ranges keeps a style set legal. -/
theorem StyleWrite.apply_legal {w : StyleWrite} {t : Style} (hw : w.inRange = true) (ht : t.legal = true) :
    (w.apply t).legal = true := by
  cases w with
  | curve x ps =>
    have hcurve := curveLegal_points hw
    have happly : (StyleWrite.curve x ps).apply t = { t with curve := t.curve.set x (ps.map RawPoint.point) } := rfl
    rw [happly]
    simp only [Style.legal, Bool.and_eq_true] at ht ⊢
    cases x <;> simp_all [PerBox.set]
  | other => cases hw
  | yarn | boxes | bands | drying | masks =>
    simp_all [StyleWrite.inRange, Style.legal, StyleWrite.apply]

/-- A whole group in its ranges keeps a machine table legal. -/
theorem MachineWrite.apply_legal {w : MachineWrite} {m : MachineTable} (hw : w.inRange = true) (hm : m.legal = true) :
    (w.apply m).legal = true := by
  cases w with
  | other => cases hw
  | geometry | measurement | actuators | beam | ports =>
    simp only [MachineWrite.inRange, MachineTable.legal, MachineWrite.apply, Bool.and_eq_true] at *
    tauto

/-! ### The banks (R152, R153) -/

theorem bankLegal_unsealed (c : BankCopy) : bankLegal c.unsealed = true := rfl

theorem bankLegal_sealed {c : BankCopy} (h : c.settings.legal = true) : bankLegal c.sealed = true := by
  simp [bankLegal, h]

/-- Both banks and a store in flight are legal. -/
def NvStore.legal (n : NvStore) : Prop := bankLegal n.bank1 = true ∧ bankLegal n.bank2 = true
    ∧ (n.flight.all fun f => f.copy.settings.legal) = true

theorem State.settingsLegal_iff (s : State) : s.settingsLegal ↔ s.settings.legal = true ∧ s.nv.legal := Iff.rfl

/-- A bank written and the flight taken away or begun keep the store legal. -/
theorem NvStore.legal_setBank {n : NvStore} {id : BankId} {b : Bank} {f : Option StoreFlight} (h : n.legal)
    (hb : bankLegal b = true) (hf : (f.all fun f => f.copy.settings.legal) = true) :
    ({ n.setBank id b with flight := f } : NvStore).legal := by
  obtain ⟨h1, h2, -⟩ := h
  cases id
  · exact ⟨hb, h2, hf⟩
  · exact ⟨h1, hb, hf⟩

theorem NvStore.legal_stopStore {n : NvStore} (h : n.legal) (draw : Nat) : (n.stopStore draw).legal := by
  unfold NvStore.stopStore
  split
  · exact h
  · exact legal_setBank h (bankLegal_unsealed _) rfl

theorem NvStore.legal_lastGood {n : NvStore} (h : n.legal) {g : BankId × BankCopy} (hg : n.lastGood = some g) :
    g.2.settings.legal = true := by
  obtain ⟨h1, h2, -⟩ := h
  obtain ⟨b, hb, hgood, hcontent, -⟩ := NvStore.lastGood_eq_some (id := g.1) (c := g.2) hg
  have hlegal : bankLegal b = true := by rcases hb with ⟨-, rfl⟩ | ⟨-, rfl⟩ <;> assumption
  simpa [bankLegal, hgood, hcontent] using hlegal

/-! ### What each writing command leaves -/

section commands
variable {s : State}

theorem settingsLegal_reads : Reads [.machine, .styles, .roles, .nv] State.settingsLegal := by
  intro s t hsame h
  rw [State.settingsLegal_iff, Settings.legal_iff] at *
  have hmachine : t.settings.machine = s.settings.machine := hsame .machine (by decide)
  have hstyles : t.settings.styles = s.settings.styles := hsame .styles (by decide)
  have hroles : t.settings.roles = s.settings.roles := hsame .roles (by decide)
  have hnv : t.nv = s.nv := hsame .nv (by decide)
  rwa [hmachine, hstyles, hroles, hnv]

theorem storeEnd_settingsLegal (h : s.settingsLegal) : (storeEnd s).settingsLegal := by
  unfold storeEnd
  split
  · exact h
  · next f hf =>
    obtain ⟨hset, hnv⟩ := h
    have hcopy : f.copy.settings.legal = true := by
      obtain ⟨-, -, hflight⟩ := hnv
      simpa [hf] using hflight
    exact ⟨hset, NvStore.legal_setBank hnv (bankLegal_sealed hcopy) rfl⟩

theorem retentionMarkWrite_settingsLegal (h : s.settingsLegal) : (retentionMarkWrite s).settingsLegal :=
  ⟨h.1, NvStore.legal_stopStore h.2 _⟩

theorem startSettings_legal (h : s.settingsLegal) (kind : StartKind) : (s.startSettings kind).legal = true := by
  cases kind with
  | warm => exact h.1
  | nvLost => exact factorySettings_legal
  | cold =>
    simp only [State.startSettings]
    cases hg : s.nv.lastGood with
    | none => exact factorySettings_legal
    | some g => exact NvStore.legal_lastGood h.2 hg

theorem cardStart_settingsLegal (retain : Bool) (h : s.settingsLegal) : (cardStart retain s).settingsLegal := by
  have hcommon (kind : StartKind) : (s.startCommon kind).startAutoLift.settingsLegal :=
    ⟨startSettings_legal h kind, NvStore.legal_stopStore h.2 _⟩
  have hcold (kind : StartKind) : (s.startCommon kind).startAutoLift.startCold.settingsLegal :=
    settingsLegal_reads.of_frame (frame_startCold _) (by decide) (hcommon kind)
  unfold cardStart
  cases s.startKindFor retain
  · exact hcold _
  · exact settingsLegal_reads.of_frame (frame_startWarm _) (by decide) (hcommon _)
  · exact hcold _

theorem tick_settingsLegal (h : s.settingsLegal) : s.tick.settingsLegal := by
  obtain ⟨hset, h1, h2, hflight⟩ := h
  refine ⟨hset, h1, h2, ?_⟩
  rw [← hflight]
  simp only [State.tick]
  cases s.nv.flight <;> rfl

theorem writeStyleWork_settingsLegal (p : Port) (w : StyleWrite) (h : s.settingsLegal) :
    (writeStyleWork p w s).state.settingsLegal := by
  unfold writeStyleWork
  dsimp only
  split_ifs with hunlisted hbusy hactive hrange
  iterate 4 exact h
  all_goals
    have hwritten : ({ s with settings := { s.settings with
        styles := s.settings.styles.set (s.port p).selected
          (w.apply (s.settings.styles.get (s.port p).selected)) } } : State).settingsLegal := by
      obtain ⟨hset, hnv⟩ := h
      rw [Settings.legal_iff] at hset
      obtain ⟨hmachine, hstyles, hroles⟩ := hset
      refine ⟨(Settings.legal_iff _).mpr ⟨hmachine, fun i => ?_, hroles⟩, hnv⟩
      rw [PerStyle.get_set]
      split
      · exact StyleWrite.apply_legal (by simpa using hrange) (hstyles _)
      · exact hstyles i
  · exact settingsLegal_reads.of_frame (frame_settleDepths _) (by decide) hwritten
  · exact hwritten

theorem writeMachineWork_settingsLegal (w : MachineWrite) (h : s.settingsLegal) :
    (writeMachineWork w s).state.settingsLegal := by
  rcases writeMachineWork_cases s w with hw | ⟨-, -, -, hrange, -, hw⟩ <;> rw [hw]
  · exact h
  have hwritten : (s.withMachine w).settingsLegal := by
    obtain ⟨hset, hnv⟩ := h
    rw [Settings.legal_iff] at hset
    obtain ⟨hmachine, hrest⟩ := hset
    exact ⟨(Settings.legal_iff _).mpr ⟨MachineWrite.apply_legal hrange hmachine, hrest⟩, hnv⟩
  have hkeep {ps : List Part} {t : State} (hf : Frame ps (s.withMachine w) t)
      (ha : apart [.machine, .styles, .roles, .nv] ps = true) : t.settingsLegal :=
    settingsLegal_reads.of_frame hf ha hwritten
  cases w with
  | geometry => exact hkeep (frame_afterGeometry _ s) (by decide)
  | measurement =>
    exact hkeep ((frame_retestAge _ .a).trans (frame_retestAge _ .b)) (by decide)
  | actuators => exact hkeep (frame_afterActuators _) (by decide)
  | beam | ports | other => exact hwritten

theorem writeRolesWork_settingsLegal (p : Port) (r0 r1 r2 r3 : Byte) (h : s.settingsLegal) :
    (writeRolesWork p r0 r1 r2 r3 s).state.settingsLegal := by
  unfold writeRolesWork
  split
  · exact h
  · split
    · exact h
    · next roles _ =>
      split
      · exact h
      · next hstation =>
        obtain ⟨hset, hnv⟩ := h
        rw [Settings.legal_iff] at hset
        obtain ⟨hmachine, hstyles, -⟩ := hset
        exact ⟨(Settings.legal_iff _).mpr ⟨hmachine, hstyles, by simpa using hstation⟩, hnv⟩

theorem storeSettingsWork_settingsLegal (p : Port) (h : s.settingsLegal) :
    (storeSettingsWork p s).state.settingsLegal := by
  unfold storeSettingsWork
  split
  · exact h
  · exact ⟨h.1, NvStore.legal_setBank h.2 (bankLegal_unsealed _) h.1⟩

end commands

theorem exec_settingsLegal {c : Instr} {s t : State} (hc : exec c s = .next t) (h : s.settingsLegal) :
    t.settingsLegal := by
  cases c
  case storeEnd => cases hc; exact whenRunning_keeps storeEnd_settingsLegal h
  case retentionMarkWrite => cases hc; exact whenRunning_keeps retentionMarkWrite_settingsLegal h
  case cardStart retain => cases hc; exact cardStart_settingsLegal retain h
  case writeStyle hd w =>
    exact settingsLegal_reads.of_request rfl (by decide) hc (writeStyleWork_settingsLegal hd.port w) h
  case writeMachine hd w =>
    exact settingsLegal_reads.of_request rfl (by decide) hc (writeMachineWork_settingsLegal w) h
  case writeRoles hd r0 r1 r2 r3 =>
    exact settingsLegal_reads.of_request rfl (by decide) hc (writeRolesWork_settingsLegal hd.port r0 r1 r2 r3) h
  case storeSettings hd =>
    exact settingsLegal_reads.of_request rfl (by decide) hc (storeSettingsWork_settingsLegal hd.port) h
  all_goals exact settingsLegal_reads.of_exec hc rfl h

end Sys2Proof.Machine
end

section
namespace Sys2Proof.Machine

/-! ### Ports and arbiter (R136, R140 to R143) -/

/-- A port that does not rest in EXECUTING and stores at most 64 bytes. -/
def PortUnit.legal (u : PortUnit) : Prop :=
  u.state ≠ .executing ∧ ∀ f, u.rx = some f → f.bytes.length ≤ Config.frameLimit

/-- The lock gap timer runs only while a lock stands. -/
def Arbiter.legal (a : Arbiter) : Prop := a.lockGap.isSome = true → a.lock.isSome = true

/-- The pending style is never the active style. -/
def State.stylesApart (s : State) : Prop := s.pendingStyle ≠ some s.settings.active

theorem State.portsLegal_iff (s : State) :
    s.portsLegal ↔ (∀ p, (s.port p).legal) ∧ s.arbiter.legal ∧ s.stylesApart :=
  ⟨fun ⟨hstate, hrx, ha, hd⟩ => ⟨fun p => ⟨hstate p, hrx p⟩, ha, hd⟩,
    fun ⟨hp, ha, hd⟩ => ⟨fun p => (hp p).1, fun p => (hp p).2, ha, hd⟩⟩

theorem portsLegal_reads : Reads [.stages, .arbiter, .active, .pendingStyle] State.portsLegal := by
  intro s t hsame h
  have hstages : ∀ p, (t.port p).state = (s.port p).state ∧ (t.port p).rx = (s.port p).rx ∧ _ :=
    hsame .stages (by decide)
  have harbiter : t.arbiter = s.arbiter := hsame .arbiter (by decide)
  have hactive : t.settings.active = s.settings.active := hsame .active (by decide)
  have hpending : t.pendingStyle = s.pendingStyle := hsame .pendingStyle (by decide)
  rw [State.portsLegal_iff] at *
  obtain ⟨hp, ha, hd⟩ := h
  refine ⟨fun p => ?_, by rwa [harbiter], by rwa [State.stylesApart, hactive, hpending]⟩
  obtain ⟨hstate, hrx, -⟩ := hstages p
  rw [PortUnit.legal, hstate, hrx]
  exact hp p

theorem stylesApart_reads : Reads [.active, .pendingStyle] State.stylesApart := by
  intro s t hsame h
  have hactive : t.settings.active = s.settings.active := hsame .active (by decide)
  have hpending : t.pendingStyle = s.pendingStyle := hsame .pendingStyle (by decide)
  rwa [State.stylesApart, hactive, hpending]

section ports
variable {s : State} {p : Port}

theorem State.portsLegal.port (h : s.portsLegal) (p : Port) : (s.port p).legal := ((State.portsLegal_iff s).mp h).1 p

theorem State.portsLegal.setPort (h : s.portsLegal) {u : PortUnit} (hu : u.legal) : (s.setPort p u).portsLegal := by
  rw [State.portsLegal_iff] at *
  obtain ⟨hp, ha, hd⟩ := h
  refine ⟨fun q => ?_, ha, hd⟩
  by_cases hq : q = p
  · subst hq; rwa [State.port_setPort_same]
  · rw [State.port_setPort_ne s u hq]; exact hp q

theorem State.portsLegal.withArbiter (h : s.portsLegal) {a : Arbiter} (ha : a.legal) :
    ({ s with arbiter := a } : State).portsLegal := by
  rw [State.portsLegal_iff] at *
  obtain ⟨hp, -, hd⟩ := h
  exact ⟨hp, ha, hd⟩

theorem Arbiter.legal_noGap (pointer : Port) (lock : Option Port) : (⟨pointer, lock, none⟩ : Arbiter).legal := nofun

/-- A port with nothing received, in a state other than EXECUTING. -/
theorem PortUnit.legal_dropped {u : PortUnit} (hstate : u.state ≠ .executing) (hrx : u.rx = none) : u.legal :=
  ⟨hstate, by simp [hrx]⟩

/-- A port that moves to a state other than EXECUTING and keeps what it has received. -/
theorem PortUnit.legal.moved {u v : PortUnit} (h : u.legal) (hstate : v.state ≠ .executing) (hrx : v.rx = u.rx) :
    v.legal := ⟨hstate, fun f hf => h.2 f (hrx ▸ hf)⟩

theorem PortUnit.legal_start : PortUnit.start.legal := PortUnit.legal_dropped (by decide) rfl

theorem discardFrame_legal {u : PortUnit} (h : u.legal) (f : RxFrame) : (u.discardFrame f).legal := by
  unfold PortUnit.discardFrame
  split
  · exact PortUnit.legal_dropped (by simp) rfl
  · exact PortUnit.legal_dropped h.1 rfl

theorem frameClean_portsLegal (h : s.portsLegal) (f : RxFrame) : (s.frameClean p f).portsLegal := by
  unfold State.frameClean
  dsimp only
  have hqueued : (s.setPort p { s.port p with rx := none, state := .queued, queued := f.bytes }).portsLegal :=
    h.setPort (PortUnit.legal_dropped (by simp) rfl)
  split_ifs
  · exact h.setPort (discardFrame_legal (h.port p) f)
  · exact hqueued.withArbiter (Arbiter.legal_noGap _ _)
  · exact hqueued

theorem frameBad_portsLegal (h : s.portsLegal) (f : RxFrame) (byGap : Bool) : (s.frameBad p f byGap).portsLegal := by
  unfold State.frameBad
  split
  · exact h.setPort (discardFrame_legal (h.port p) f)
  · exact h.setPort (PortUnit.legal_dropped (by simp [PortUnit.linkError]) rfl)

theorem frameOver_portsLegal (h : s.portsLegal) : (s.frameOver p).portsLegal := by
  have hdrop : (s.setPort p (s.port p).dropFrame).portsLegal := h.setPort (PortUnit.legal_dropped (h.port p).1 rfl)
  unfold State.frameOver
  dsimp only
  split
  · exact hdrop
  · exact portsLegal_reads.of_frame (frame_postTo _ _ _) (by decide) hdrop

theorem endFrame_portsLegal (h : s.portsLegal) (f : RxFrame) (byGap : Bool) : (s.endFrame p f byGap).portsLegal := by
  unfold State.endFrame
  split_ifs
  · exact frameOver_portsLegal h
  · exact frameClean_portsLegal h f
  · exact frameBad_portsLegal h f byGap

theorem frameComplete_portsLegal (h : s.portsLegal) : (frameComplete p s).portsLegal := by
  unfold frameComplete
  split
  · split
    · exact frameClean_portsLegal h _
    · exact h
  · exact h

theorem frameInError_portsLegal (h : s.portsLegal) : (frameInError p s).portsLegal := by
  unfold frameInError
  split
  · split
    · exact frameBad_portsLegal h _ _
    · exact h
  · exact h

theorem frameOverlap_portsLegal (h : s.portsLegal) : (frameOverlap p s).portsLegal := by
  unfold frameOverlap
  split
  · split
    · exact frameOver_portsLegal h
    · exact h
  · exact h

theorem gapLimitExpiry_portsLegal (h : s.portsLegal) : (gapLimitExpiry p s).portsLegal := by
  unfold gapLimitExpiry
  split
  · split
    · exact endFrame_portsLegal h _ _
    · exact h
  · exact h

theorem take_legal {u : PortUnit} (h : u.legal) (char : Byte) (parity framing : Bool) :
    (u.take char parity framing).legal := by
  obtain ⟨hstate, hrx⟩ := h
  unfold PortUnit.take
  split
  · split
    · refine ⟨?_, ?_⟩
      · dsimp only; split
        · decide
        · exact hstate
      · rintro f ⟨⟩; exact Nat.le_of_ble_eq_true rfl
    · exact ⟨hstate, hrx⟩
  · next f hf =>
    refine ⟨hstate, ?_⟩
    rintro g ⟨⟩
    have hlen := hrx f hf
    dsimp only
    split
    · rw [List.length_append, List.length_singleton]; omega
    · exact hlen

theorem settleFrame_portsLegal (h : s.portsLegal) : (s.settleFrame p).portsLegal := by
  unfold State.settleFrame
  split
  · exact endFrame_portsLegal h _ _
  · exact h

theorem characterReceived_portsLegal (char : Byte) (parity framing : Bool) (h : s.portsLegal) :
    (characterReceived p char parity framing s).portsLegal := by
  unfold characterReceived
  split
  · have hsettled := settleFrame_portsLegal (p := p) h
    exact hsettled.setPort (take_legal (hsettled.port p) char parity framing)
  · exact h

theorem lineBreak_portsLegal (h : s.portsLegal) : (lineBreak p s).portsLegal := by
  unfold lineBreak State.dropLock
  have hreset : (s.setPort p (s.port p).reset).portsLegal :=
    h.setPort (PortUnit.legal_dropped (by simp [PortUnit.reset]) rfl)
  split_ifs
  · exact hreset.withArbiter (Arbiter.legal_noGap _ _)
  · exact hreset
  · exact h

theorem replySent_portsLegal (h : s.portsLegal) : (replySent p s).portsLegal := by
  unfold replySent
  split
  · exact h
  · have hidle : (s.setPort p { s.port p with state := .idle, reply := none }).portsLegal :=
      h.setPort ((h.port p).moved (by simp) rfl)
    unfold State.startLockGap
    dsimp only
    split_ifs with _ hlock
    · exact hidle
    · exact hidle.withArbiter fun _ => by simpa using congrArg Option.isSome hlock
    · exact hidle

theorem lockGapExpiry_portsLegal (h : s.portsLegal) : (lockGapExpiry s).portsLegal := by
  unfold lockGapExpiry
  split
  · exact portsLegal_reads.of_frame (frame_postTo _ _ _) (by decide) (h.withArbiter (Arbiter.legal_noGap _ _))
  · exact h
  · exact h

theorem markConditionReturn_portsLegal (h : s.portsLegal) : (markConditionReturn p s).portsLegal :=
  h.setPort ((h.port p).moved (h.port p).1 rfl)

theorem offer_portsLegal (frame : List Byte) (h : s.portsLegal) : (s.offer p frame).portsLegal := by
  unfold State.offer
  split
  · exact h
  · split
    · exact h.setPort ((h.port p).moved (by simp) rfl)
    · exact portsLegal_reads.of_frame (frame_postTo _ _ _) (by decide) h
    all_goals exact h

/-! ### The engine's part -/

/-- The answer leaves the ports legal where the effects leave the stages as the grant left them. -/
theorem answer_portsLegal {h : Hdr} {r : Served} {ws : List Part} (hs : s.portsLegal)
    (hf : Frame ws (s.grant h.port) r.state) (ha : apart [.stages] ws = true) (hd : r.state.stylesApart) :
    (answer h r).portsLegal := by
  have hstages : ∀ q, (r.state.port q).state = ((s.grant h.port).port q).state
      ∧ (r.state.port q).rx = ((s.grant h.port).port q).rx ∧ _ := hf.2 .stages (by simpa [apart] using ha)
  refine (State.portsLegal_iff _).mpr ⟨fun q => ?_, Arbiter.legal_noGap _ _, hd⟩
  obtain ⟨hstate, hrx, -⟩ := hstages q
  by_cases hq : q = h.port
  · subst hq
    have hport : (answer h r).port h.port = { r.state.port h.port with
        state := .replying
        reply := some ⟨resultFrame h.tag r.status (r.state.port h.port).attention r.data, false⟩ } :=
      PerPort.get_set_same _ _ _
    rw [hport]
    exact (hs.port h.port).moved (by simp) (by simpa [State.grant_port_same] using hrx)
  · have hport : (answer h r).port q = r.state.port q := PerPort.get_set_ne _ _ hq
    rw [State.grant_port_ne s hq] at hstate hrx
    rw [hport]
    exact (hs.port q).moved (hstate ▸ (hs.port q).1) hrx

theorem serve_portsLegal {h : Hdr} {frame : List Byte} {checked : State → Served} {ws : List Part}
    (hf : ∀ g, Frame ws g (checked g).state) (ha : apart [.stages] ws = true)
    (hd : ∀ g, g.stylesApart → (checked g).state.stylesApart) (hs : s.portsLegal) :
    (serve h frame checked s).portsLegal := by
  refine whenRunning_keeps (fun hs => ?_) hs
  split
  · exact hs
  · split
    · exact offer_portsLegal frame hs
    · exact answer_portsLegal hs (hf _) ha (hd _ ((State.portsLegal_iff s).mp hs).2.2)

/-- A granted listed command, where its own work keeps the styles apart. -/
theorem request_portsLegal {c : Instr} {h : Hdr} {k : CmdKind} {t : State} (hq : request c = some (h, k))
    (hc : exec c s = .next t) (ha : apart [.stages] c.workWrites = true)
    (hd : ∀ g, g.stylesApart → (c.work g).state.stylesApart) (hs : s.portsLegal) : t.portsLegal := by
  rw [exec_request hq] at hc
  cases hc
  refine serve_portsLegal (fun g => frame_engine h k g (frame_work c g)) ha (fun g hg => ?_) hs
  rcases engine_cases h k c.work g with he | he | he <;> rw [he]
  · exact hg
  · exact hg
  · exact hd g hg

/-- A listed command whose own work writes neither the active nor the pending style. -/
theorem request_portsLegal_apart {c : Instr} {h : Hdr} {k : CmdKind} {t : State} (hq : request c = some (h, k))
    (hc : exec c s = .next t) (ha : apart [.stages, .active, .pendingStyle] c.workWrites = true)
    (hs : s.portsLegal) : t.portsLegal := by
  simp only [apart, List.all_cons, Bool.and_eq_true] at ha
  obtain ⟨hstages, hrest⟩ := ha
  refine request_portsLegal hq hc (by simpa [apart] using hstages) (fun g hg => ?_) hs
  exact stylesApart_reads.of_frame (frame_work c g) (by simpa [apart] using hrest) hg

/-! ### The pending style -/

theorem stylesApart_of_none (h : s.pendingStyle = none) : s.stylesApart := by simp [State.stylesApart, h]

theorem switchStyle_pendingStyle (s : State) (i : StyleIndex) : (s.switchStyle i).pendingStyle = s.pendingStyle := by
  have hframe := (frame_settleDepths ({ s with settings := { s.settings with active := i } } : State).emptyWindows)
  exact hframe.2 .pendingStyle (by decide)

theorem applyPending_pendingStyle (s : State) : s.applyPending.pendingStyle = none := by
  unfold State.applyPending
  split
  · assumption
  · dsimp only
    split
    · rfl
    · rw [switchStyle_pendingStyle]

theorem doffWork_stylesApart (h : s.stylesApart) : (doffWork s).state.stylesApart := by
  unfold doffWork
  split
  · exact h
  · split
    · exact h
    · split
      · exact h
      · dsimp only
        split
        · exact h
        · exact stylesApart_of_none ((frame_postIf _ _ _).2 .pendingStyle (by decide) |>.trans
            (applyPending_pendingStyle _))

theorem activateStyleWork_stylesApart (b : Byte) (h : s.stylesApart) : (activateStyleWork b s).state.stylesApart := by
  unfold activateStyleWork
  split
  · exact h
  · split_ifs with _ hactive
    · exact h
    · exact stylesApart_of_none rfl
    · exact h
    · exact stylesApart_of_none (switchStyle_pendingStyle _ _)
    · exact fun hsame => hactive (Option.some.inj hsame).symm

theorem cardStart_portsLegal (retain : Bool) (h : s.portsLegal) : (cardStart retain s).portsLegal := by
  have hports (kind : StartKind) (hd : (s.startCommon kind).startAutoLift.stylesApart) :
      (s.startCommon kind).startAutoLift.portsLegal := by
    refine (State.portsLegal_iff _).mpr ⟨fun p => ?_, Arbiter.legal_noGap _ _, hd⟩
    cases p <;> exact PortUnit.legal_start
  have hcold (kind : StartKind) : (s.startCommon kind).startAutoLift.startCold.portsLegal := by
    refine (State.portsLegal_iff _).mpr ⟨fun p => ?_, ?_, ?_⟩
    all_goals rw [State.startCold, State.pathClear_eq]
    · cases p <;> exact PortUnit.legal_start
    · exact Arbiter.legal_noGap _ _
    · exact stylesApart_of_none rfl
  unfold cardStart
  cases s.startKindFor retain
  · exact hcold _
  · exact portsLegal_reads.of_frame (frame_startWarm _) (by decide) (hports _ ((State.portsLegal_iff s).mp h).2.2)
  · exact hcold _

theorem tick_portsLegal (h : s.portsLegal) : s.tick.portsLegal := by
  rw [State.portsLegal_iff] at *
  obtain ⟨hp, ha, hd⟩ := h
  refine ⟨fun p => ?_, ?_, hd⟩
  · have hport : s.tick.port p = (s.port p).tick := PerPort.get_map _ _ _
    rw [hport]
    refine ⟨(hp p).1, fun f hf => ?_⟩
    obtain ⟨g, hg, rfl⟩ := Option.map_eq_some_iff.mp hf
    exact (hp p).2 g hg
  · simpa [Arbiter.legal, State.tick] using ha

end ports

theorem exec_portsLegal {c : Instr} {s t : State} (hc : exec c s = .next t) (h : s.portsLegal) : t.portsLegal := by
  cases c
  case lockGapExpiry => cases hc; exact whenRunning_keeps lockGapExpiry_portsLegal h
  case gapLimitExpiry => cases hc; exact whenRunning_keeps gapLimitExpiry_portsLegal h
  case frameComplete => cases hc; exact whenRunning_keeps frameComplete_portsLegal h
  case frameInError => cases hc; exact whenRunning_keeps frameInError_portsLegal h
  case frameOverlap => cases hc; exact whenRunning_keeps frameOverlap_portsLegal h
  case characterReceived => cases hc; exact whenRunning_keeps (characterReceived_portsLegal _ _ _) h
  case lineBreak => cases hc; exact whenRunning_keeps lineBreak_portsLegal h
  case replySent => cases hc; exact whenRunning_keeps replySent_portsLegal h
  case markConditionReturn => cases hc; exact whenRunning_keeps markConditionReturn_portsLegal h
  case cardStart retain => cases hc; exact cardStart_portsLegal retain h
  case doff => exact request_portsLegal rfl hc rfl (fun _ => doffWork_stylesApart) h
  case activateStyle b => exact request_portsLegal rfl hc rfl (fun _ => activateStyleWork_stylesApart _) h
  case unknownCommandCode =>
    cases hc
    exact serve_portsLegal (ws := []) (fun g => .refl [] g) (by decide) (fun _ hg => hg) h
  case trackPulse | feedPulse | liquorPulse | homeSwitchActive | gaugeSample | standstillTimeout
      | intervalTimerExpiry | rampTimerExpiry | ageTimerExpiry | autoLiftExpiry | fieldResetExpiry | rollStep
      | jetTimerExpiry | storeEnd | retentionMarkWrite | startUpHoldEnd =>
    exact portsLegal_reads.of_exec hc rfl h
  all_goals exact request_portsLegal_apart rfl hc rfl h

/-- Settles O55: each invariant by the parts it reads and the commands that write them. -/
theorem stepKeepsSettingsAndPortsLegal : Obligations.StepKeepsSettingsAndPortsLegal :=
  ⟨fun _ _ h => step_keeps settingsLegal_reads settingsLegal_reads (by decide) (by decide)
      (fun _ _ _ _ h hc => exec_settingsLegal hc h) (fun _ => tick_settingsLegal) h h,
    fun _ _ h => step_keeps portsLegal_reads portsLegal_reads (by decide) (by decide)
      (fun _ _ _ _ h hc => exec_portsLegal hc h) (fun _ => tick_portsLegal) h h⟩

end Sys2Proof.Machine
end

section
namespace Sys2Proof.Machine

/-! ### Slots as numbers (R18) -/

section numbers
variable {α : Type}

theorem map_isSome_any (f : α → Nat) (l : List (Option α)) :
    (l.map fun x => x.map f).any Option.isSome = l.any Option.isSome := by
  simp [List.any_map, Function.comp_def]

theorem laneFull_map (f : α → Nat) (l : List (Option α)) : laneFull (l.map fun x => x.map f) = laneFull l := by
  simp [laneFull, List.all_map, Function.comp_def]

theorem slotAt_map_isSome (f : α → Nat) (l : List (Option α)) (p : Nat) :
    (slotAt (l.map fun x => x.map f) p).isSome = (slotAt l p).isSome := by
  simp only [slotAt, List.getElem?_map]
  cases l[p]? with
  | none => rfl
  | some slot => cases slot <;> rfl

theorem tailRun_none (n : Nat) {l : List (Option Nat)} (h : l.all Option.isNone = true) : tailRun n l = true := by
  cases l with
  | nil => rfl
  | cons x rest =>
    simp only [List.all_cons, Bool.and_eq_true] at h
    obtain ⟨hx, hrest⟩ := h
    cases x with
    | none => exact hrest
    | some q => cases hx

theorem tailRun_dropLast (n : Nat) (l : List (Option Nat)) (h : tailRun n l = true) :
    tailRun n l.dropLast = true := by
  induction l generalizing n with
  | nil => rfl
  | cons x rest ih =>
    cases rest with
    | nil => rfl
    | cons y rest =>
      cases x with
      | none =>
        simp only [tailRun, List.dropLast_cons_cons] at h ⊢
        exact List.all_eq_true.mpr fun z hz => List.all_eq_true.mp h z (List.dropLast_subset _ hz)
      | some q =>
        simp only [tailRun, List.dropLast_cons_cons, Bool.and_eq_true] at h ⊢
        exact ⟨h.1, ih _ h.2⟩

/-- A lane shifted at a boundary holds the run that begins at the record entering. -/
theorem tailRun_shift {n : Nat} {l : List (Option Nat)} (hn : 1 ≤ n) (h : tailRun (n - 1) l = true) :
    tailRun n (shiftLane l (some n)) = true := by
  simp [shiftLane, tailRun, hn, tailRun_dropLast _ _ h]

/-- A run that reaches the head slot fills its lane. -/
theorem all_isSome_of_head {n : Nat} {l : List (Option Nat)} (h : tailRun n l = true)
    (hhead : (headOf l).isSome = true) : l.all Option.isSome = true := by
  induction l generalizing n with
  | nil => rfl
  | cons x rest ih =>
    cases rest with
    | nil => simpa [headOf] using hhead
    | cons y rest =>
      have hlast : headOf (x :: y :: rest) = headOf (y :: rest) := by simp [headOf, List.getLast?_cons_cons]
      rw [hlast] at hhead
      cases x with
      | none =>
        have hmem : headOf (y :: rest) ∈ y :: rest := by
          simp [headOf, List.getLast?_eq_some_getLast (List.cons_ne_nil y rest)]
        have hnone := List.all_eq_true.mp h _ hmem
        simp_all
      | some q =>
        simp only [tailRun, Bool.and_eq_true] at h
        simpa using ih h.2 hhead

theorem shiftLane_length {β : Type} {l : List (Option β)} (h : 1 ≤ l.length) (x : Option β) :
    (shiftLane l x).length = l.length := by
  simp [shiftLane]; omega

theorem headOf_map (f : α → Nat) (l : List (Option α)) : headOf (l.map fun x => x.map f) = (headOf l).map f := by
  simp only [headOf, List.getLast?_map]
  cases l.getLast? <;> rfl

theorem shiftLane_map (f : α → Nat) (l : List (Option α)) (x : Option α) :
    (shiftLane l x).map (fun x => x.map f) = shiftLane (l.map fun x => x.map f) (x.map f) := by
  simp [shiftLane, List.map_dropLast]

end numbers

/-! ### What of the path the invariant reads -/

/-- The slots of the lanes as numbers. -/
structure Numbers where
  a : List (Option Nat)
  b : List (Option Nat)
  main : List (Option Nat)

/-- The numbers in the slots of the lanes as they stand. -/
def State.numbers (s : State) : Numbers := ⟨laneNumbers (s.lane .a), laneNumbers (s.lane .b), mainNumbers s.path.main⟩

/-- The run of each lane from a number, at the depths of the machine table, and a main lane empty until a lane
  before it
is full. -/
structure Numbers.run (x : Numbers) (n : Nat) (g : Geometry) : Prop where
  lengthA : x.a.length = g.depthA
  lengthB : x.b.length = g.depthB
  lengthMain : x.main.length = g.depthMain
  runA : tailRun n x.a = true
  runB : tailRun n x.b = true
  runMain : tailRun n x.main = true
  full : x.main.any Option.isSome = true → laneFull x.a = true ∨ laneFull x.b = true

/-- The tail slots hold records once a boundary has been. -/
structure Numbers.begun (x : Numbers) (n : Nat) (g : Geometry) : Prop where
  tailA : 1 ≤ n → (slotAt x.a 0).isSome = true
  tailB : 1 ≤ n → (g.depthB != 0) = true → (slotAt x.b 0).isSome = true

theorem State.pathLegal_iff (s : State) : s.pathLegal ↔ s.path.sequence ≤ Config.maxLong
    ∧ s.numbers.run s.path.sequence s.geometry ∧ s.numbers.begun s.path.sequence s.geometry := by
  have hany : (mainNumbers s.path.main).any Option.isSome = s.path.main.any Option.isSome := map_isSome_any _ _
  have hfull (x : Box) : laneFull (laneNumbers (s.lane x)) = laneFull (s.lane x) := laneFull_map _ _
  have hslot (x : Box) : (slotAt (laneNumbers (s.lane x)) 0).isSome = (slotAt (s.lane x) 0).isSome :=
    slotAt_map_isSome _ _ _
  constructor
  · rintro ⟨hseq, hla, hlb, hlm, hra, hrb, hrm, hf, hta, htb⟩
    refine ⟨hseq, ⟨by simpa [State.numbers, laneNumbers] using hla, by simpa [State.numbers, laneNumbers] using hlb,
      by simpa [State.numbers, mainNumbers] using hlm, hra, hrb, hrm, ?_⟩, ?_, ?_⟩
    · simpa only [State.numbers, hany, hfull] using hf
    · simpa only [State.numbers, hslot] using hta
    · exact fun hn hb => by simpa only [State.numbers, hslot] using htb hn hb
  · rintro ⟨hseq, ⟨hla, hlb, hlm, hra, hrb, hrm, hf⟩, hta, htb⟩
    simp only [State.numbers, hany, hfull, hslot] at hf hta htb
    refine ⟨hseq, by simpa [State.numbers, laneNumbers] using hla, by simpa [State.numbers, laneNumbers] using hlb,
      by simpa [State.numbers, mainNumbers] using hlm, hra, hrb, hrm, hf, hta, htb⟩

/-- Two states whose sheet paths hold the same numbers at the same depths. -/
def samePath (s t : State) : Prop :=
  t.path.sequence = s.path.sequence ∧ t.geometry = s.geometry ∧ t.numbers = s.numbers

theorem samePath.refl (s : State) : samePath s s := ⟨rfl, rfl, rfl⟩

theorem samePath.trans {s t u : State} (h : samePath s t) (h' : samePath t u) : samePath s u :=
  ⟨h'.1.trans h.1, h'.2.1.trans h.2.1, h'.2.2.trans h.2.2⟩

theorem samePath.legal {s t : State} (h : samePath s t) (hs : s.pathLegal) : t.pathLegal := by
  obtain ⟨hseq, hgeometry, hnumbers⟩ := h
  rw [State.pathLegal_iff] at *
  rwa [hseq, hgeometry, hnumbers]

theorem samePath_of_parts {s t : State} (h : ∀ part ∈ [Part.slots, .sequence, .machine], part.same s t) :
    samePath s t := by
  have hslots : t.path.lanes = s.path.lanes ∧ t.path.main = s.path.main := h .slots (by decide)
  have hsequence : t.path.sequence = s.path.sequence := h .sequence (by decide)
  have hmachine : t.settings.machine = s.settings.machine := h .machine (by decide)
  obtain ⟨hlanes, hmain⟩ := hslots
  exact ⟨hsequence, by rw [State.geometry, hmachine]; rfl, by simp only [State.numbers, State.lane, hlanes, hmain]⟩

theorem pathLegal_reads : Reads [.slots, .sequence, .machine] State.pathLegal :=
  fun _ _ h => (samePath_of_parts h).legal

theorem samePath_of_frame {ws : List Part} {s t : State} (hf : Frame ws s t)
    (ha : apart [.slots, .sequence, .machine] ws = true) : samePath s t :=
  samePath_of_parts fun part hp => hf.2 part (by simpa using List.all_eq_true.mp ha part hp)

/-! ### What adds to records and keeps their numbers (R21) -/

section additions
variable (s : State)

theorem samePath_addToZone (z : Zone) (c : CauseSet) (d : Nat) : samePath s (s.addToZone z c d) := by
  have hlane (r : ZoneRange) (l : List (Option LaneRecord)) :
      laneNumbers (mapRange r (fun x => x.add c d) l) = laneNumbers l := mapRange_map r
        (fun x : LaneRecord => x.add c d) LaneRecord.sequence (fun _ => rfl) l
  have hmain (r : ZoneRange) (l : List (Option MainRecord)) :
      mainNumbers (mapRange r (fun x => x.add c d) l) = mainNumbers l := mapRange_map r
        (fun x : MainRecord => x.add c d) MainRecord.sequence (fun _ => rfl) l
  unfold State.addToZone
  split
  · next r _ =>
    refine ⟨by cases z <;> rfl, by cases z <;> rfl, ?_⟩
    cases z <;> simp [State.addToRange, State.numbers, State.lane, State.setLane, PerBox.set, PerBox.get, hlane,
      hmain]
  · exact .refl s

theorem samePath_foldl {α : Type} {f : State → α → State} (h : ∀ a s, samePath s (f s a)) (l : List α) :
    samePath s (l.foldl f s) := by
  induction l generalizing s with
  | nil => exact .refl s
  | cons a l ih => exact (h a s).trans (ih _)

theorem samePath_withMonitor (m : MonitorUnit) : samePath s { s with monitor := m } := ⟨rfl, rfl, rfl⟩

theorem samePath_withLine (u : LengthUnit) : samePath s { s with line := u } := ⟨rfl, rfl, rfl⟩

theorem samePath_monitorLeaveStop : samePath s s.monitorLeaveStop := by
  have hdwell (t : State) (z : Zone) : samePath t (t.applyDwell z) := by
    unfold State.applyDwell
    dsimp only
    split
    · exact samePath_addToZone t z _ _
    · exact .refl t
  exact (samePath_foldl s (fun z t => hdwell t z) Zone.all).trans (samePath_withMonitor _ _)

theorem samePath_monitorAnnounce (old new : LineState) : samePath s (s.monitorAnnounce old new) := by
  have hleave : samePath s (if old = .stopped ∧ new ≠ .stopped then s.monitorLeaveStop else s) := by
    split
    · exact samePath_monitorLeaveStop s
    · exact .refl s
  cases new with
  | crawl =>
    exact hleave.trans (samePath_of_frame
      ((frame_addCausesInUse _ .a _).trans (frame_addCausesInUse _ .b _)) (by decide))
  | stopped => exact hleave.trans (samePath_withMonitor _ _)
  | run => exact hleave

theorem samePath_changeLineState (new : LineState) : samePath s (s.changeLineState new) := by
  unfold State.changeLineState
  dsimp only
  split
  · exact .refl s
  · refine ((samePath_withLine s { s.line with lineState := new }).trans
      (samePath_monitorAnnounce _ s.line.lineState new)).trans ?_
    exact (samePath_of_frame (frame_boxesAnnounce _ _ new) (by decide)).trans
      (samePath_of_frame (frame_beamAnnounce _ new) (by decide))

theorem samePath_standstillTimeout : samePath s (standstillTimeout s) := by
  unfold standstillTimeout
  split
  · exact .refl s
  · exact (samePath_of_frame (frame_withLine s _) (by decide)).trans (samePath_changeLineState _ _)

theorem samePath_trackLineWork : samePath s s.trackLineWork := by
  unfold State.trackLineWork
  dsimp only
  split
  · exact ((samePath_withLine s _).trans (samePath_changeLineState _ _)).trans
      ((samePath_withLine _ _).trans (samePath_withLine _ _))
  · split
    · exact ((samePath_withLine s _).trans ((samePath_withLine _ _).trans (samePath_changeLineState _ _))).trans
        (samePath_withLine _ _)
    · exact (samePath_withLine s _).trans (samePath_withLine _ _)

theorem samePath_intervalTimerExpiry : samePath s (intervalTimerExpiry s) := by
  have hzone (t : State) (z : Zone) : samePath t (t.advanceZone z) := by
    rcases t.advanceZone_cases z with ⟨-, h⟩ | ⟨-, -, h⟩ | ⟨-, -, -, h⟩ <;> rw [h]
    · exact .refl t
    · exact ⟨rfl, rfl, rfl⟩
    · exact (samePath_addToZone (t.setZone z _) z _ _).trans (samePath_of_frame (frame_post _ _) (by decide))
  unfold intervalTimerExpiry
  split
  · exact .refl s
  · refine samePath.trans ?_ (samePath_foldl _ (fun z t => hzone t z) Zone.all)
    refine (samePath_withMonitor s { s.monitor with interval := some 0 }).trans ?_
    exact samePath_of_frame ((frame_advanceSoak _ .a).trans (frame_advanceSoak _ .b)) (by decide)

theorem samePath_startWarm : samePath s s.startWarm := by
  rw [startWarm_eq]
  refine (samePath_foldl s (fun z t => samePath_addToZone t z Cause.powerstop.set 0) Zone.all).trans ?_
  refine (samePath_of_frame ((frame_warmSoak _ .a).trans (frame_warmSoak _ .b)) (by decide)).trans ?_
  refine (samePath_of_frame (frame_warmReports _) (by decide)).trans ?_
  exact (samePath_of_frame (frame_depthsUnknown _) (by decide)).trans
    (samePath_of_frame (frame_retainBeam _) (by decide))

end additions

/-! ### The path clear and the boundary (R26 to R35) -/

section boundary
variable {s : State}

theorem pathClear_numbers (s : State) : s.pathClear.numbers =
    ⟨List.replicate s.geometry.depthA none, List.replicate s.geometry.depthB none,
      List.replicate s.geometry.depthMain none⟩ := by
  rw [State.pathClear_eq]
  simp [State.numbers, State.lane, laneNumbers, mainNumbers, PerBox.get]

theorem pathClear_run (s : State) (n : Nat) : s.pathClear.numbers.run n s.geometry := by
  have hnone (k : Nat) : (List.replicate k (none : Option Nat)).all Option.isNone = true := by simp
  rw [pathClear_numbers]
  refine ⟨by simp, by simp, by simp, tailRun_none n (hnone _), tailRun_none n (hnone _), tailRun_none n (hnone _), ?_⟩
  simp

theorem pathClear_sequence (s : State) : s.pathClear.path.sequence = 0 := by rw [State.pathClear_eq]

theorem pathClear_geometry (s : State) : s.pathClear.geometry = s.geometry := by rw [State.pathClear_eq]; rfl

theorem pathClear_pathLegal (s : State) : s.pathClear.pathLegal := by
  refine (State.pathLegal_iff _).mpr ?_
  rw [pathClear_sequence, pathClear_geometry]
  exact ⟨Nat.zero_le _, pathClear_run s 0, nofun, nofun⟩

/-- Once the next number is taken, the slots hold the run that ends one below it. -/
theorem takeSequence_run (h : s.pathLegal) : ∃ n, s.takeSequence.path.sequence = n + 1 ∧ n + 1 ≤ Config.maxLong
    ∧ s.takeSequence.numbers.run n s.geometry := by
  obtain ⟨-, hrun, -⟩ := (State.pathLegal_iff s).mp h
  unfold State.takeSequence
  dsimp only
  split
  · next hroom => exact ⟨_, rfl, hroom, hrun⟩
  · exact ⟨0, by rw [pathClear_sequence], by decide, pathClear_run s 0⟩

theorem takeSequence_geometry (s : State) : s.takeSequence.geometry = s.geometry := by
  unfold State.takeSequence
  dsimp only
  split
  · rfl
  · exact pathClear_geometry s

/-- The records closed at a boundary carry its number, lane B's where that lane exists. -/
theorem closeAll_sequences (s : State) :
    s.closeAll.1.map LaneRecord.sequence = some s.takeSequence.path.sequence
    ∧ s.closeAll.2.1.map LaneRecord.sequence
        = (if s.laneBExists then some s.takeSequence.path.sequence else none) := by
  have hstretch : s.takeSequence.takeStretch.path.sequence = s.takeSequence.path.sequence :=
    (frame_takeStretch _).2 .sequence (by decide)
  have hclosed (t : State) (stretch : Option Int) :
      (t.closeSegment .a stretch).state.path.sequence = t.path.sequence :=
    (frame_closeSegment t .a stretch).2 .sequence (by decide)
  have hexists : s.takeSequence.takeStretch.laneBExists = s.laneBExists := by
    have hgeometry : s.takeSequence.takeStretch.geometry = s.takeSequence.geometry :=
      congrArg MachineTable.geometry ((frame_takeStretch _).2 .machine (by decide))
    rw [State.laneBExists, hgeometry, takeSequence_geometry]; rfl
  unfold State.closeAll
  dsimp only
  rw [hexists]
  split
  · refine ⟨congrArg some hstretch, congrArg some ?_⟩
    exact (hclosed _ _).trans hstretch
  · exact ⟨congrArg some hstretch, rfl⟩

/-- Closing and opening the segments leaves the slots as the taking of the number did. -/
theorem closeAll_samePath (s : State) : samePath s.takeSequence s.closeAll.2.2 := by
  have hframe (stretch : Option Int) : Frame [.line, .events, .windows, .soak, .pulses, .causes] s.takeSequence
      (s.takeSequence.takeStretch.closeSegment .a stretch).state :=
    (frame_takeStretch _).seq (frame_closeSegment _ .a stretch) (by decide)
  unfold State.closeAll
  dsimp only
  split
  · exact samePath_of_frame ((hframe s.takeSequence.line.stretch).seq
      (rs := [.line, .events, .windows, .soak, .pulses, .causes])
      (frame_closeSegment _ .b s.takeSequence.line.stretch) (by decide)) (by decide)
  · exact samePath_of_frame (hframe s.takeSequence.line.stretch) (by decide)

theorem merge_sequence (s : State) (outA outB : Option LaneRecord) : (s.merge outA outB).map MainRecord.sequence
    = if (outA.or outB).isSome then some s.path.sequence else none := by
  unfold State.merge
  cases outA.or outB <;> rfl

/-- The numbers after the shifts: the new records at the tails, in the main lane the number of a merge of anything. -/
theorem shiftAll_numbers (s : State) {recA recB : Option LaneRecord} {n : Nat}
    (ha : recA.map LaneRecord.sequence = some n)
    (hb : recB.map LaneRecord.sequence = if s.laneBExists then some n else none) (hn : s.path.sequence = n) :
    (s.shiftAll recA recB).numbers = ⟨shiftLane s.numbers.a (some n),
      if s.laneBExists then shiftLane s.numbers.b (some n) else s.numbers.b,
      shiftLane s.numbers.main (if (headOf s.numbers.a).isSome
        ∨ s.laneBExists = true ∧ (headOf s.numbers.b).isSome then some n else none)⟩ := by
  have hheadA : headOf s.numbers.a = (headOf (s.lane .a)).map LaneRecord.sequence := headOf_map _ _
  have hheadB : headOf s.numbers.b = (headOf (s.lane .b)).map LaneRecord.sequence := headOf_map _ _
  have hlane (x : Box) (r : Option LaneRecord) : laneNumbers (shiftLane (s.lane x) r)
      = shiftLane (laneNumbers (s.lane x)) (r.map LaneRecord.sequence) := shiftLane_map _ _ _
  have hmain (u : State) (out out' : Option LaneRecord) (hu : u.path.sequence = n) :
      mainNumbers (shiftLane s.path.main (u.merge out out'))
        = shiftLane (mainNumbers s.path.main) (if (out.or out').isSome then some n else none) := by
    rw [mainNumbers, shiftLane_map, merge_sequence, hu]; rfl
  unfold State.shiftAll
  rw [hheadA, hheadB]
  cases hexists : s.laneBExists with
  | true =>
    simp only [hexists, if_true] at hb
    simp only [State.numbers, if_true, State.setLane, State.setMain, State.lane, PerBox.set,
      PerBox.get, true_and]
    have h2 := hmain { s with path := { s.path with lanes :=
      ⟨shiftLane (s.lane .a) recA, shiftLane (s.lane .b) recB⟩ } } (headOf (s.lane .a)) (headOf (s.lane .b)) hn
    have h3 := hlane .a recA
    have h4 := hlane .b recB
    simp only [State.lane, PerBox.get, ha, hb] at h2 h3 h4
    simp only [h2, h3, h4, Option.isSome_map, Option.isSome_or, Bool.or_eq_true]
  | false =>
    simp only [State.numbers, if_false, Bool.false_eq_true, State.setLane, State.setMain, State.lane, PerBox.set,
      PerBox.get, false_and, or_false]
    have h2 := hmain { s with path := { s.path with lanes :=
      ⟨shiftLane (s.lane .a) recA, s.lane .b⟩ } } (headOf (s.lane .a)) none hn
    have h3 := hlane .a recA
    simp only [State.lane, PerBox.get, ha] at h2 h3
    simp only [h2, h3, Option.isSome_map, Option.or_none]

/-- The shift of the runs one below a number gives the runs of that number. -/
theorem Numbers.run.shift {x : Numbers} {n : Nat} {g : Geometry} (h : x.run n g) (ha : 1 ≤ g.depthA)
    (hmain : 1 ≤ g.depthMain) {y : Numbers}
    (hy : y = ⟨shiftLane x.a (some (n + 1)), if (g.depthB != 0) = true then shiftLane x.b (some (n + 1)) else x.b,
      shiftLane x.main (if (headOf x.a).isSome = true ∨ (g.depthB != 0) = true ∧ (headOf x.b).isSome = true
        then some (n + 1) else none)⟩) : y.run (n + 1) g ∧ y.begun (n + 1) g := by
  obtain ⟨hla, hlb, hlm, hra, hrb, hrm, hfull⟩ := h
  have hfullShift {l : List (Option Nat)} (hrun : tailRun n l = true) (hhead : (headOf l).isSome = true) :
      laneFull (shiftLane l (some (n + 1))) = true := by
    have hall := all_isSome_of_head hrun hhead
    simp only [laneFull, shiftLane, List.isEmpty_cons, Bool.not_false, Bool.true_and, List.all_cons,
      Option.isSome_some]
    exact List.all_eq_true.mpr fun z hz => List.all_eq_true.mp hall z (List.dropLast_subset _ hz)
  have hheadFull {l : List (Option Nat)} (hf : laneFull l = true) : (headOf l).isSome = true := by
    simp only [laneFull, Bool.and_eq_true, Bool.not_eq_true', List.isEmpty_eq_false_iff] at hf
    obtain ⟨hne, hall⟩ := hf
    rw [headOf, List.getLast?_eq_some_getLast hne]
    exact List.all_eq_true.mp hall _ (List.getLast_mem hne)
  have hbEmpty (hb : ¬(g.depthB != 0) = true) : x.b = [] := by
    simp only [bne_iff_ne, ne_eq, not_not] at hb
    exact List.eq_nil_of_length_eq_zero (hlb.trans hb)
  -- Where nothing left the lanes before it, no record lies in the main lane.
  have hnothing (hout : ¬((headOf x.a).isSome = true ∨ (g.depthB != 0) = true ∧ (headOf x.b).isSome = true)) :
      x.main.dropLast.all Option.isNone = true := by
    have hany : ¬x.main.any Option.isSome = true := fun hany => by
      rcases hfull hany with hf | hf
      · exact hout (.inl (hheadFull hf))
      · by_cases hb : (g.depthB != 0) = true
        · exact hout (.inr ⟨hb, hheadFull hf⟩)
        · rw [hbEmpty hb] at hf; cases hf
    refine List.all_eq_true.mpr fun z hz => ?_
    cases z with
    | none => rfl
    | some q => exact absurd (List.any_eq_true.mpr ⟨some q, List.dropLast_subset _ hz, rfl⟩) hany
  subst hy
  refine ⟨⟨?_, ?_, ?_, ?_, ?_, ?_, ?_⟩, fun _ => rfl, fun _ hb => ?_⟩
  · exact (shiftLane_length (by omega) _).trans hla
  · dsimp only
    split
    · next hb =>
      have hpos : g.depthB ≠ 0 := by simpa using hb
      exact (shiftLane_length (by omega) _).trans hlb
    · exact hlb
  · exact (shiftLane_length (by omega) _).trans hlm
  · exact tailRun_shift (by omega) hra
  · dsimp only
    split
    · exact tailRun_shift (by omega) hrb
    · next hb => rw [hbEmpty hb]; rfl
  · dsimp only
    split
    · exact tailRun_shift (by omega) hrm
    · next hout => exact hnothing hout
  · dsimp only
    intro hany
    by_cases hout : (headOf x.a).isSome = true ∨ (g.depthB != 0) = true ∧ (headOf x.b).isSome = true
    · rcases hout with hhead | ⟨hb, hhead⟩
      · exact .inl (hfullShift hra hhead)
      · rw [if_pos hb]
        exact .inr (hfullShift hrb hhead)
    · rw [if_neg hout] at hany
      obtain ⟨z, hz, hsome⟩ := List.any_eq_true.mp hany
      rcases List.mem_cons.mp hz with rfl | hz
      · cases hsome
      · have := List.all_eq_true.mp (hnothing hout) z hz
        cases z <;> simp_all
  · dsimp only
    rw [if_pos hb]
    rfl

theorem gaugeArrival_samePath (s : State) : samePath s s.gaugeArrival := by
  have hset (l : List (Option MainRecord)) (r : MainRecord) (h : slotAt l s.geometry.gauge = some r) :
      mainNumbers (l.set s.geometry.gauge (some (s.stampMoisture r))) = mainNumbers l := by
    have hseq : (s.stampMoisture r).sequence = r.sequence := by unfold State.stampMoisture; split <;> rfl
    rw [mainNumbers, mainNumbers, List.map_set, Option.map_some, hseq]
    refine List.ext_getElem? fun i => ?_
    rw [List.getElem?_set]
    split
    · next hi =>
      subst hi
      cases hl : l[s.geometry.gauge]? with
      | none => simp [slotAt, hl] at h
      | some slot =>
        simp only [slotAt, hl, Option.getD_some] at h
        obtain ⟨hlt, hslot⟩ := List.getElem?_eq_some_iff.mp hl
        simp [hslot, h, hlt]
    · rfl
  unfold State.gaugeArrival
  split
  · next r hr => exact ⟨rfl, rfl, by simp only [State.numbers, State.setMain, State.lane, hset _ r hr]⟩
  · exact .refl s

theorem arriveAll_samePath (s : State) (delivered : Option MainRecord) : samePath s (s.arriveAll delivered) :=
  (gaugeArrival_samePath s).trans (samePath_of_frame
    ((frame_markerArrival _ _ _).seq (rs := [.jets, .beam, .events]) (frame_deliver _ _) (by decide)) (by decide))

/-- The lanes through which a segment passes have a slot. -/
def State.depthsLegal (s : State) : Prop := 1 ≤ s.geometry.depthA ∧ 1 ≤ s.geometry.depthMain

theorem depthsLegal_reads : Reads [.machine] State.depthsLegal := by
  intro s t hsame h
  have hmachine : t.settings.machine = s.settings.machine := hsame .machine (by decide)
  rwa [State.depthsLegal, State.geometry, hmachine]

theorem shiftAll_parts (s : State) (recA recB : Option LaneRecord) :
    (s.shiftAll recA recB).path.sequence = s.path.sequence ∧ (s.shiftAll recA recB).geometry = s.geometry :=
  ⟨(frame_shiftAll s recA recB).2 .sequence (by decide),
    congrArg MachineTable.geometry ((frame_shiftAll s recA recB).2 .machine (by decide))⟩

theorem boundary_pathLegal (hd : s.depthsLegal) (h : s.pathLegal) : s.boundary.pathLegal := by
  obtain ⟨n, htaken, hmax, hrun⟩ := takeSequence_run h
  obtain ⟨hseqA, hseqB⟩ := closeAll_sequences s
  obtain ⟨hcseq, hcgeometry, hcnumbers⟩ := closeAll_samePath s
  have hgeometry : s.closeAll.2.2.geometry = s.geometry := hcgeometry.trans (takeSequence_geometry s)
  have hexists : s.closeAll.2.2.laneBExists = s.laneBExists := by rw [State.laneBExists, hgeometry]; rfl
  refine (arriveAll_samePath _ _).legal ((State.pathLegal_iff _).mpr ?_)
  obtain ⟨hsseq, hsgeometry⟩ := shiftAll_parts s.closeAll.2.2 s.closeAll.1 s.closeAll.2.1
  rw [htaken] at hseqA hseqB hcseq
  rw [hsseq, hsgeometry, hgeometry, hcseq]
  refine ⟨hmax, ?_⟩
  have hshift := shiftAll_numbers s.closeAll.2.2 hseqA (by rw [hexists]; exact hseqB) hcseq
  rw [hcnumbers, hexists] at hshift
  exact hrun.shift hd.1 hd.2 hshift

theorem trackMillimetre_pathLegal (hd : s.depthsLegal) (h : s.pathLegal) : s.trackMillimetre.pathLegal := by
  have hcounted : Frame [.line, .beam, .jets, .events] s
      ({ s with line := { s.line with track := s.line.track + 1 } } : State).woundMillimetre :=
    (frame_withLine s _).seq (frame_woundMillimetre _) (by decide)
  have hframe (d : Nat) := hcounted.seq (rs := [.line, .beam, .jets, .events])
    (frame_withLine _ { ({ s with line := { s.line with track := s.line.track + 1 } } : State).woundMillimetre.line
      with
      distance := d }) (by decide)
  unfold State.trackMillimetre
  dsimp only
  split
  · exact (samePath_of_frame (hframe _) (by decide)).legal h
  · exact boundary_pathLegal (depthsLegal_reads.of_frame (hframe 0) (by decide) hd)
      ((samePath_of_frame (hframe 0) (by decide)).legal h)

theorem trackMillimetres_pathLegal (n : Nat) (hd : s.depthsLegal) (h : s.pathLegal) :
    (State.trackMillimetres n s).pathLegal := by
  induction n generalizing s with
  | zero => exact h
  | succ n ih =>
    exact ih (depthsLegal_reads.of_frame (frame_trackMillimetre s) (by decide) hd) (trackMillimetre_pathLegal hd h)

theorem trackPulse_pathLegal (hd : s.depthsLegal) (h : s.pathLegal) : (trackPulse s).pathLegal := by
  have hcounted (t : State) (r : Nat) : samePath t { t with line := { t.line with trackResidue := r } } :=
    ⟨rfl, rfl, rfl⟩
  refine trackMillimetres_pathLegal _ ?_ ((hcounted _ _).legal ((samePath_trackLineWork s).legal h))
  exact depthsLegal_reads.of_frame ((frame_trackLineWork s).seq (rs := announced) (frame_withLine _ _) (by decide))
    (by decide) hd

end boundary

/-! ### Every command -/

section commands
variable {s : State}

theorem clearPathWork_pathLegal (h : s.pathLegal) : (clearPathWork s).state.pathLegal := by
  unfold clearPathWork
  split
  · exact pathClear_pathLegal s
  · exact h

theorem writeMachineWork_pathLegal (w : MachineWrite) (h : s.pathLegal) : (writeMachineWork w s).state.pathLegal := by
  rcases writeMachineWork_cases s w with hw | ⟨-, -, -, -, -, hw⟩ <;> rw [hw]
  · exact h
  cases w with
  | geometry => exact pathClear_pathLegal _
  | measurement a b c d e f g k =>
    have hsame : samePath s (s.withMachine (.measurement a b c d e f g k)) := ⟨rfl, rfl, rfl⟩
    exact (hsame.trans (samePath_of_frame ((frame_retestAge _ .a).trans (frame_retestAge _ .b)) (by decide))).legal h
  | actuators a b c d e f g =>
    have hsame : samePath s (s.withMachine (.actuators a b c d e f g)) := ⟨rfl, rfl, rfl⟩
    exact (hsame.trans (samePath_of_frame (frame_afterActuators _) (by decide))).legal h
  | beam a b => exact samePath.legal (s := s) ⟨rfl, rfl, rfl⟩ h
  | ports a => exact samePath.legal (s := s) ⟨rfl, rfl, rfl⟩ h
  | other a b => exact samePath.legal (s := s) ⟨rfl, rfl, rfl⟩ h

theorem cardStart_pathLegal (retain : Bool) (h : s.pathLegal) : (cardStart retain s).pathLegal := by
  unfold cardStart
  cases s.startKindFor retain
  · exact pathClear_pathLegal _
  · exact (samePath.trans (t := (s.startCommon .warm).startAutoLift) ⟨rfl, rfl, rfl⟩ (samePath_startWarm _)).legal h
  · exact pathClear_pathLegal _

end commands

theorem settingsLegal_depths {s : State} (h : s.settingsLegal) : s.depthsLegal := by
  have hmachine := ((Settings.legal_iff _).mp h.1).1
  simp only [MachineTable.legal, Geometry.inRange, Bool.and_eq_true, within, decide_eq_true_eq] at hmachine
  exact ⟨by simp only [State.geometry]; omega, by simp only [State.geometry]; omega⟩

theorem exec_pathLegal {c : Instr} {s t : State} (hset : s.settingsLegal) (h : s.pathLegal)
  (hc : exec c s = .next t) :
    t.pathLegal := by
  cases c
  case trackPulse => cases hc; exact whenRunning_keeps (trackPulse_pathLegal (settingsLegal_depths hset)) h
  case standstillTimeout => cases hc; exact whenRunning_keeps (samePath_standstillTimeout s).legal h
  case intervalTimerExpiry => cases hc; exact whenRunning_keeps (samePath_intervalTimerExpiry s).legal h
  case cardStart retain => cases hc; exact cardStart_pathLegal retain h
  case clearPath => exact pathLegal_reads.of_request rfl (by decide) hc clearPathWork_pathLegal h
  case writeMachine w => exact pathLegal_reads.of_request rfl (by decide) hc (writeMachineWork_pathLegal _) h
  all_goals exact pathLegal_reads.of_exec hc rfl h

/-- Settles O56: what adds to a record keeps its number, and a boundary shifts the runs by one. -/
theorem stepKeepsLanesUnbroken : Obligations.StepKeepsLanesUnbroken :=
  fun s _ hset h => step_keeps settingsLegal_reads pathLegal_reads (by decide) (by decide)
    (fun _ _ _ => exec_pathLegal) (fun s => (samePath.legal (s := s) ⟨rfl, rfl, rfl⟩)) hset h

end Sys2Proof.Machine
end

section
namespace Sys2Proof.Machine

/-! ### The Length Counter Unit and the timers that follow it (section 1.1, R5, R7, R66, R97) -/

/-- The ranges of section 1.1, and what STOPPED and its contrary imply within the unit. -/
structure LengthUnit.legal (u : LengthUnit) : Prop where
  trackResidue : u.trackResidue < 1000
  feedResidue : u.feedResidue < 1000
  distance : u.distance < Config.segmentLength
  speed : u.speed ≤ 3000
  periods : u.periods.length ≤ Config.periodWindow
  stretchRing : u.stretchRing.length ≤ Config.stretchWindow
  stopped : u.lineState = .stopped → u.speed = 0 ∧ u.periods = [] ∧ u.lastCapture = none ∧ u.standstill = none
  moving : u.lineState ≠ .stopped → u.lastCapture.isSome = true ∧ u.standstill.isSome = true

/-- The interval timer runs exactly in STOPPED, the auto-lift timer in STOPPED alone. -/
structure State.timersLegal (s : State) : Prop where
  interval : s.monitor.interval.isSome = true ↔ s.line.lineState = .stopped
  autoLift : s.boxes.autoLift.isSome = true → s.line.lineState = .stopped

theorem State.lineLegal_iff (s : State) : s.lineLegal ↔ s.line.legal ∧ s.timersLegal := by
  constructor
  · rintro ⟨h1, h2, h3, h4, h5, h6, h7, h8, h9, h10⟩
    exact ⟨⟨h1, h2, h3, h4, h5, h6, h7, h8⟩, ⟨h9, h10⟩⟩
  · rintro ⟨⟨h1, h2, h3, h4, h5, h6, h7, h8⟩, ⟨h9, h10⟩⟩
    exact ⟨h1, h2, h3, h4, h5, h6, h7, h8, h9, h10⟩

theorem lineLegal_reads : Reads [.line, .interval, .autoLift] State.lineLegal := by
  intro s t hsame h
  have hline : t.line = s.line := hsame .line (by decide)
  have hinterval : t.monitor.interval = s.monitor.interval := hsame .interval (by decide)
  have hlift : t.boxes.autoLift = s.boxes.autoLift := hsame .autoLift (by decide)
  rw [State.lineLegal_iff] at *
  obtain ⟨hu, hti, hta⟩ := h
  exact ⟨hline ▸ hu, ⟨by rwa [hinterval, hline], by rwa [hlift, hline]⟩⟩

section line
variable {s t : State}

/-- What changes neither LINE STATE nor the two timers keeps the timers legal. -/
theorem timersLegal_of_frame {ws : List Part} (hf : Frame ws s t) (ha : apart [.interval, .autoLift] ws = true)
    (hl : t.line.lineState = s.line.lineState) (h : s.timersLegal) : t.timersLegal := by
  have hsame (part : Part) (hp : part ∈ [Part.interval, .autoLift]) : part.same s t :=
    hf.2 part (by simpa using List.all_eq_true.mp ha part hp)
  have hinterval : t.monitor.interval = s.monitor.interval := hsame .interval (by decide)
  have hlift : t.boxes.autoLift = s.boxes.autoLift := hsame .autoLift (by decide)
  exact ⟨by rw [hinterval, hl]; exact h.interval, by rw [hlift, hl]; exact h.autoLift⟩

/-! ### A change of LINE STATE -/

theorem monitorAnnounce_interval (s : State) (old new : LineState) : (s.monitorAnnounce old new).monitor.interval
    = if new = .stopped then some 0 else if old = .stopped then none else s.monitor.interval := by
  have hcrawl (t : State) : t.markCrawl.monitor.interval = t.monitor.interval :=
    ((frame_addCausesInUse t .a _).trans (frame_addCausesInUse _ .b _)).2 .interval (by decide)
  cases new <;> cases old <;> simp [State.monitorAnnounce, State.monitorLeaveStop, hcrawl]

theorem boxesAnnounce_autoLift (s : State) (old new : LineState) : (s.boxesAnnounce old new).boxes.autoLift
    = if new = .stopped then s.autoLiftStart else if old = .stopped then none else s.boxes.autoLift := by
  have hlower (t : State) : ((t.autoLowerRoll .a).autoLowerRoll .b).boxes.autoLift = t.boxes.autoLift :=
    ((frame_autoLowerRoll t .a).trans (frame_autoLowerRoll _ .b)).2 .autoLift (by decide)
  unfold State.boxesAnnounce
  dsimp only
  split
  · rfl
  · split
    · split
      · rw [hlower]
      · rfl
    · rfl

theorem changeLineState_timersLegal (new : LineState) (h : s.timersLegal) : (s.changeLineState new).timersLegal := by
  by_cases hsame : new = s.line.lineState
  · rwa [State.changeLineState, if_pos hsame]
  have hinterval : (s.changeLineState new).monitor.interval
      = if new = .stopped then some 0 else if s.line.lineState = .stopped then none else s.monitor.interval := by
    rw [State.changeLineState, if_neg hsame]
    refine ((frame_beamAnnounce _ new).2 .interval (by decide)).trans ?_
    refine ((frame_boxesAnnounce _ _ new).2 .interval (by decide)).trans ?_
    exact monitorAnnounce_interval _ _ new
  have hlift (hnew : new ≠ .stopped) : (s.changeLineState new).boxes.autoLift
      = if s.line.lineState = .stopped then none else s.boxes.autoLift := by
    rw [State.changeLineState, if_neg hsame]
    refine ((frame_beamAnnounce _ new).2 .autoLift (by decide)).trans ?_
    refine (boxesAnnounce_autoLift _ _ new).trans ?_
    rw [if_neg hnew, (frame_monitorAnnounce _ _ new).2 .autoLift (by decide)]
  refine ⟨?_, ?_⟩
  · rw [hinterval, State.changeLineState_line]
    split_ifs with hnew hold
    · simp [hnew]
    · simp [hnew]
    · simp [hnew, h.interval, hold]
  · rw [State.changeLineState_line]
    by_cases hnew : new = .stopped
    · exact fun _ => hnew
    · rw [hlift hnew]
      split_ifs with hold
      · nofun
      · exact fun hrun => absurd (h.autoLift hrun) hold

/-! ### The pulses -/

theorem feedPulse_lineLegal (h : s.lineLegal) : (feedPulse s).lineLegal := by
  rw [State.lineLegal_iff] at *
  obtain ⟨hu, ht⟩ := h
  exact ⟨{ hu with feedResidue := Nat.mod_lt _ (by decide) }, ⟨ht.interval, ht.autoLift⟩⟩

theorem standstillTimeout_lineLegal (h : s.lineLegal) : (standstillTimeout s).lineLegal := by
  unfold standstillTimeout
  split
  · exact h
  · rw [State.lineLegal_iff] at *
    obtain ⟨hu, ht⟩ := h
    refine ⟨?_, changeLineState_timersLegal .stopped ⟨ht.interval, ht.autoLift⟩⟩
    rw [State.changeLineState_line]
    exact { hu with
      speed := Nat.zero_le _
      periods := Nat.zero_le _
      stopped := fun _ => ⟨rfl, rfl, rfl, rfl⟩
      moving := fun hmove => absurd rfl hmove }

theorem comparedLineState_ne_stopped {old : LineState} (h : old ≠ .stopped) (v threshold hysteresis : Nat) :
    comparedLineState old v threshold hysteresis ≠ .stopped := by
  cases old
  · exact absurd rfl h
  all_goals unfold comparedLineState; dsimp only; split <;> decide

theorem latchedAs_lineLegal (hu : t.line.trackResidue < 1000 ∧ t.line.feedResidue < 1000
      ∧ t.line.distance < Config.segmentLength ∧ t.line.speed ≤ 3000 ∧ t.line.periods.length ≤ Config.periodWindow
      ∧ t.line.stretchRing.length ≤ Config.stretchWindow) (hmove : t.line.lineState ≠ .stopped)
    (ht : t.timersLegal) : (t.latchedAs s).lineLegal := by
  obtain ⟨h1, h2, h3, h4, h5, h6⟩ := hu
  exact (State.lineLegal_iff _).mpr ⟨⟨h1, h2, h3, h4, h5, h6, fun hstop => absurd hstop hmove, fun _ => ⟨rfl, rfl⟩⟩,
    ⟨ht.interval, ht.autoLift⟩⟩

theorem trackLineWork_lineLegal (h : s.lineLegal) : s.trackLineWork.lineLegal := by
  obtain ⟨hu, ht⟩ := (State.lineLegal_iff s).mp h
  have htimers (u : LengthUnit) (hl : u.lineState = s.line.lineState) : (s.withLine u).timersLegal :=
    timersLegal_of_frame (frame_withLine s u) (by decide) hl ht
  by_cases hstop : s.line.lineState = .stopped
  · rw [State.trackLineWork_stopped s hstop]
    refine latchedAs_lineLegal ?_ ?_ (changeLineState_timersLegal .crawl (htimers { s.line with speed := 0 } rfl))
    · rw [State.changeLineState_line]
      exact ⟨hu.trackResidue, hu.feedResidue, hu.distance, Nat.zero_le _, hu.periods, hu.stretchRing⟩
    · rw [State.changeLineState_line]; exact nofun
  · obtain ⟨last, hlast⟩ := Option.isSome_iff_exists.mp (hu.moving hstop).1
    rw [State.trackLineWork_moving s hstop hlast]
    refine latchedAs_lineLegal ?_ ?_ (changeLineState_timersLegal _ (htimers _ rfl))
    · rw [State.paced_line]
      refine ⟨hu.trackResidue, hu.feedResidue, hu.distance, Nat.min_le_right _ _, ?_, hu.stretchRing⟩
      exact (pushRing_length _ _ _).trans_le (Nat.min_le_right _ _)
    · rw [State.paced_line]
      exact comparedLineState_ne_stopped hstop _ _ _

/-! ### The millimetres -/

theorem pathClear_lineLegal (h : s.lineLegal) : s.pathClear.lineLegal := by
  obtain ⟨hu, ht⟩ := (State.lineLegal_iff s).mp h
  have hline := s.pathClear_line
  refine (State.lineLegal_iff _).mpr ⟨?_, timersLegal_of_frame (frame_pathClear s) (by decide) (by rw [hline]) ht⟩
  rw [hline]
  exact { hu with distance := Nat.succ_pos _, stretchRing := Nat.zero_le _ }

theorem boundary_line (s : State) : s.boundary.line = s.takeSequence.takeStretch.line := by
  have hclose : s.closeAll.2.2.line = s.takeSequence.takeStretch.line := by
    unfold State.closeAll
    dsimp only
    split <;> simp
  simp [State.boundary, State.arriveAll, hclose]

theorem boundary_lineLegal (h : s.lineLegal) : s.boundary.lineLegal := by
  have htaken : s.takeSequence.lineLegal := by
    have hcleared : (if s.path.sequence < Config.maxLong then s else s.pathClear).lineLegal := by
      split
      · exact h
      · exact pathClear_lineLegal h
    have hnumber (t : State) : t.lineLegal →
        ({ t with path := { t.path with sequence := t.path.sequence + 1 } } : State).lineLegal := id
    exact hnumber _ hcleared
  obtain ⟨hu, -⟩ := (State.lineLegal_iff _).mp htaken
  obtain ⟨-, ht⟩ := (State.lineLegal_iff _).mp h
  refine (State.lineLegal_iff _).mpr ⟨?_, timersLegal_of_frame (frame_boundary s) (by decide) ?_ ht⟩
  · rw [boundary_line, State.takeStretch, State.postIf_line]
    exact { hu with stretchRing := (pushRing_length _ _ _).trans_le (Nat.min_le_right _ _) }
  · exact (LengthUnit.motion_eq.mp s.boundary_motion).2.1

theorem trackMillimetre_lineLegal (h : s.lineLegal) : s.trackMillimetre.lineLegal := by
  have hwound : ({ s with line := { s.line with track := s.line.track + 1 } } : State).woundMillimetre.lineLegal := by
    refine lineLegal_reads.of_frame (frame_woundMillimetre _) (by decide) ?_
    obtain ⟨hu, ht⟩ := (State.lineLegal_iff s).mp h
    exact (State.lineLegal_iff _).mpr ⟨{ hu with }, ⟨ht.interval, ht.autoLift⟩⟩
  have hdistance {t : State} (ht : t.lineLegal) {d : Nat} (hd : d < Config.segmentLength) :
      ({ t with line := { t.line with distance := d } } : State).lineLegal := by
    obtain ⟨hu, ht⟩ := (State.lineLegal_iff t).mp ht
    exact (State.lineLegal_iff _).mpr ⟨{ hu with distance := hd }, ⟨ht.interval, ht.autoLift⟩⟩
  unfold State.trackMillimetre
  dsimp only
  split
  · next hroom => exact hdistance hwound hroom
  · exact boundary_lineLegal (hdistance hwound (by decide))

theorem trackMillimetres_lineLegal (n : Nat) (h : s.lineLegal) : (State.trackMillimetres n s).lineLegal := by
  induction n generalizing s with
  | zero => exact h
  | succ n ih => exact ih (trackMillimetre_lineLegal h)

theorem trackPulse_lineLegal (h : s.lineLegal) : (trackPulse s).lineLegal := by
  refine trackMillimetres_lineLegal _ ?_
  obtain ⟨hu, ht⟩ := (State.lineLegal_iff _).mp (trackLineWork_lineLegal h)
  exact (State.lineLegal_iff _).mpr ⟨{ hu with trackResidue := Nat.mod_lt _ (by decide) }, ⟨ht.interval, ht.autoLift⟩⟩

/-! ### The other commands that write the line or its timers -/

theorem intervalTimerExpiry_lineLegal (h : s.lineLegal) : (intervalTimerExpiry s).lineLegal := by
  unfold intervalTimerExpiry
  split
  · exact h
  · next k hk =>
    refine lineLegal_reads.of_frame (Frame.foldl (fun z t => frame_advanceZone t z) Zone.all _) (by decide) ?_
    refine lineLegal_reads.of_frame ((frame_advanceSoak _ .a).trans (frame_advanceSoak _ .b)) (by decide) ?_
    obtain ⟨hu, ht⟩ := (State.lineLegal_iff s).mp h
    exact (State.lineLegal_iff _).mpr ⟨hu, ⟨by simpa [hk] using ht.interval, ht.autoLift⟩⟩

theorem autoLiftExpiry_lineLegal (h : s.lineLegal) : (autoLiftExpiry s).lineLegal := by
  unfold autoLiftExpiry
  split
  · exact h
  · refine lineLegal_reads.of_frame ((frame_autoLiftRoll _ .a).trans (frame_autoLiftRoll _ .b)) (by decide) ?_
    obtain ⟨hu, ht⟩ := (State.lineLegal_iff s).mp h
    exact (State.lineLegal_iff _).mpr ⟨hu, ⟨ht.interval, nofun⟩⟩

theorem clearPathWork_lineLegal (h : s.lineLegal) : (clearPathWork s).state.lineLegal := by
  unfold clearPathWork
  split
  · exact pathClear_lineLegal h
  · exact h

theorem writeMachineWork_lineLegal (w : MachineWrite) (h : s.lineLegal) : (writeMachineWork w s).state.lineLegal := by
  rcases writeMachineWork_cases s w with hw | ⟨-, -, -, -, -, hw⟩ <;> rw [hw]
  · exact h
  have hwritten : (s.withMachine w).lineLegal := lineLegal_reads.of_frame (frame_withMachine s _) (by decide) h
  cases w with
  | geometry g =>
    refine pathClear_lineLegal ?_
    refine lineLegal_reads.of_frame (ws := [.rolls, .soak, .causes]) (frame_settleDepths _) (by decide) ?_
    dsimp only
    split
    · exact hwritten
    · exact lineLegal_reads.of_frame ((frame_setRoll _ .b _).seq (rs := [.rolls, .soak]) (frame_setSoak _ .b _)
        (by decide)) (by decide) hwritten
  | measurement =>
    exact lineLegal_reads.of_frame ((frame_retestAge _ .a).trans (frame_retestAge _ .b)) (by decide) hwritten
  | actuators => exact lineLegal_reads.of_frame (frame_afterActuators _) (by decide) hwritten
  | beam | ports | other => exact hwritten

theorem cardStart_lineLegal (retain : Bool) (h : s.lineLegal) : (cardStart retain s).lineLegal := by
  obtain ⟨hu, -⟩ := (State.lineLegal_iff s).mp h
  have hcommon (kind : StartKind) : (s.startCommon kind).startAutoLift.lineLegal :=
    (State.lineLegal_iff _).mpr ⟨{ hu with
      speed := Nat.zero_le _
      periods := Nat.zero_le _
      stopped := fun _ => ⟨rfl, rfl, rfl, rfl⟩
      moving := fun hmove => absurd rfl hmove }, ⟨by simp [State.startAutoLift, State.startCommon], fun _ => rfl⟩⟩
  have hcold {t : State} (ht : t.lineLegal) : t.startCold.lineLegal := by
    obtain ⟨hu, ht⟩ := (State.lineLegal_iff t).mp ht
    exact pathClear_lineLegal ((State.lineLegal_iff _).mpr
      ⟨{ hu with trackResidue := Nat.succ_pos _, feedResidue := Nat.succ_pos _ }, ⟨ht.interval, ht.autoLift⟩⟩)
  unfold cardStart
  cases s.startKindFor retain
  · exact hcold (hcommon _)
  · exact lineLegal_reads.of_frame (frame_startWarm _) (by decide) (hcommon _)
  · exact hcold (hcommon _)

theorem tick_lineLegal (h : s.lineLegal) : s.tick.lineLegal := by
  obtain ⟨hu, ht⟩ := (State.lineLegal_iff s).mp h
  refine (State.lineLegal_iff _).mpr ⟨{ hu with stopped := fun hstop => ?_, moving := fun hmove => ?_ }, ?_⟩
  · obtain ⟨hspeed, hperiods, hcapture, htimer⟩ := hu.stopped hstop
    exact ⟨hspeed, hperiods, hcapture, by simp [State.tick, LengthUnit.tick, htimer]⟩
  · simpa [State.tick, LengthUnit.tick] using hu.moving hmove
  · exact ⟨by simpa [State.tick, LengthUnit.tick] using ht.interval,
      by simpa [State.tick, LengthUnit.tick] using ht.autoLift⟩

end line

theorem exec_lineLegal {c : Instr} {s t : State} (h : s.lineLegal) (hc : exec c s = .next t) : t.lineLegal := by
  cases c
  case trackPulse => cases hc; exact whenRunning_keeps trackPulse_lineLegal h
  case feedPulse => cases hc; exact whenRunning_keeps feedPulse_lineLegal h
  case standstillTimeout => cases hc; exact whenRunning_keeps standstillTimeout_lineLegal h
  case intervalTimerExpiry => cases hc; exact whenRunning_keeps intervalTimerExpiry_lineLegal h
  case autoLiftExpiry => cases hc; exact whenRunning_keeps autoLiftExpiry_lineLegal h
  case cardStart retain => cases hc; exact cardStart_lineLegal retain h
  case clearPath => exact lineLegal_reads.of_request rfl (by decide) hc clearPathWork_lineLegal h
  case writeMachine => exact lineLegal_reads.of_request rfl (by decide) hc (writeMachineWork_lineLegal _) h
  all_goals exact lineLegal_reads.of_exec hc rfl h

end Sys2Proof.Machine
end

section
namespace Sys2Proof.Machine

/-! ### The Add-On Calculator (R44, R46, R47, R50, R60) -/

/-- The pickup windows hold at most W entries. -/
def State.windowsLegal (s : State) : Prop := ∀ x, (s.window x).length ≤ s.style.yarn.window

/-- The pulse counts stay within 16 bits. -/
def State.pulsesLegal (s : State) : Prop := ∀ x, (s.segment x).pulses ≤ Config.maxWord

/-- The report registers are as their state says. -/
def State.reportsLegal (s : State) : Prop := ∀ x, (s.report x).legal = true

theorem Box.forall_iff {p : Box → Prop} : (∀ x, p x) ↔ p .a ∧ p .b :=
  ⟨fun h => ⟨h .a, h .b⟩, fun ⟨ha, hb⟩ x => by cases x; exacts [ha, hb]⟩

theorem State.addOnLegal_iff (s : State) : s.addOnLegal ↔ s.windowsLegal ∧ s.pulsesLegal ∧ s.reportsLegal := by
  rw [State.windowsLegal, State.pulsesLegal, State.reportsLegal, Box.forall_iff, Box.forall_iff, Box.forall_iff,
    and_assoc, and_assoc]
  rfl

theorem windowsLegal_reads : Reads [.windows, .styles, .active] State.windowsLegal := by
  intro s t hsame h
  have hwindows : t.addOn.windows = s.addOn.windows := hsame .windows (by decide)
  have hstyles : t.settings.styles = s.settings.styles := hsame .styles (by decide)
  have hactive : t.settings.active = s.settings.active := hsame .active (by decide)
  rwa [State.windowsLegal, State.style, hstyles, hactive, show t.window = s.window by funext x; simp
    [State.window, *]]

theorem pulsesLegal_reads : Reads [.pulses] State.pulsesLegal := by
  intro s t hsame h x
  have hpulses : ∀ x, (t.segment x).pulses = (s.segment x).pulses := hsame .pulses (by decide)
  rw [hpulses]
  exact h x

theorem reportsLegal_reads : Reads [.reports] State.reportsLegal := by
  intro s t hsame h x
  have hreports : t.addOn.reports = s.addOn.reports := hsame .reports (by decide)
  rw [State.report, hreports]
  exact h x

section addOn
variable {s : State}

/-! ### Pickup windows -/

theorem windowsLegal_of_empty (h : s.addOn.windows = ⟨[], []⟩) : s.windowsLegal := by
  intro x
  cases x <;> simp [State.window, h, PerBox.get]

theorem State.windowsLegal.setWindow (h : s.windowsLegal) {x : Box} {w : List Nat}
    (hw : w.length ≤ s.style.yarn.window) : (s.setWindow x w).windowsLegal := by
  intro y
  rw [State.setWindow_style]
  by_cases hy : y = x
  · subst hy; rwa [State.window_setWindow_same]
  · rw [State.window_setWindow_ne s w hy]; exact h y

theorem State.windowsLegal.emptyWindow (h : s.windowsLegal) (x : Box) : (s.emptyWindow x).windowsLegal :=
  h.setWindow (Nat.zero_le _)

theorem pathClear_windowsLegal (s : State) : s.pathClear.windowsLegal :=
  windowsLegal_of_empty (by rw [State.pathClear_eq])

theorem switchStyle_windowsLegal (s : State) (i : StyleIndex) : (s.switchStyle i).windowsLegal :=
  windowsLegal_reads.of_frame (frame_settleDepths _) (by decide) (windowsLegal_of_empty rfl)

theorem applyPending_windowsLegal (h : s.windowsLegal) : s.applyPending.windowsLegal := by
  unfold State.applyPending
  split
  · exact h
  · dsimp only
    split
    · exact h
    · exact switchStyle_windowsLegal _ _

theorem closeSegment_windowsLegal (x : Box) (stretch : Option Int) (h : s.windowsLegal) :
    (s.closeSegment x stretch).state.windowsLegal := by
  have hentered : (s.enterLiquor x (s.closeLiquor x)).windowsLegal :=
    h.setWindow ((pushRing_length _ _ _).trans_le (Nat.min_le_right _ _))
  exact windowsLegal_reads.of_frame (frame_openAtBoundary _ x) (by decide) hentered

theorem takeSequence_windowsLegal (h : s.windowsLegal) : s.takeSequence.windowsLegal := by
  unfold State.takeSequence
  dsimp only
  split
  · exact h
  · exact pathClear_windowsLegal s

theorem closeAll_windowsLegal (h : s.windowsLegal) : s.closeAll.2.2.windowsLegal := by
  have hstretch : s.takeSequence.takeStretch.windowsLegal :=
    windowsLegal_reads.of_frame (frame_takeStretch _) (by decide) (takeSequence_windowsLegal h)
  unfold State.closeAll
  dsimp only
  split
  · exact closeSegment_windowsLegal .b s.takeSequence.line.stretch (closeSegment_windowsLegal .a _ hstretch)
  · exact closeSegment_windowsLegal .a s.takeSequence.line.stretch hstretch

theorem autoLiftRoll_windowsLegal (x : Box) (h : s.windowsLegal) : (s.autoLiftRoll x).windowsLegal := by
  have hempty := h.emptyWindow x
  unfold State.autoLiftRoll
  dsimp only
  split
  · split
    · exact windowsLegal_reads.of_frame (frame_enterRoll _ x _) (by decide) hempty
    · exact windowsLegal_reads.of_frame (frame_enterRoll _ x _) (by decide) hempty
    · exact windowsLegal_reads.of_frame
        ((frame_complete _ x _).seq (rs := [.rolls, .events]) (frame_enterRoll _ x _) (by decide)) (by decide) hempty
    all_goals exact h
  · exact h

theorem autoLiftExpiry_windowsLegal (h : s.windowsLegal) : (autoLiftExpiry s).windowsLegal := by
  unfold autoLiftExpiry
  split
  · exact h
  · exact autoLiftRoll_windowsLegal .b (autoLiftRoll_windowsLegal .a h)

theorem startMove_windowsLegal (x : Box) (p : Port) (target : Nat) (h : s.windowsLegal) :
    (s.startMove x p target).windowsLegal := by
  unfold State.startMove
  dsimp only
  split
  · exact windowsLegal_reads.of_frame (frame_complete _ x _) (by decide) h
  · refine windowsLegal_reads.of_frame (frame_enterRoll _ x _) (by decide) ?_
    split
    · exact h.emptyWindow x
    · exact h

theorem moveRollWork_windowsLegal (p : Port) (b m : Byte) (v : Word) (h : s.windowsLegal) :
    (moveRollWork p b m v s).state.windowsLegal := by
  unfold moveRollWork
  split
  · dsimp only
    split_ifs
    iterate 4 exact h
    all_goals exact startMove_windowsLegal _ _ _ h
  all_goals exact h

theorem startHome_windowsLegal (x : Box) (p : Port) (h : s.windowsLegal) : (s.startHome x p).windowsLegal := by
  unfold State.startHome
  dsimp only
  split
  · exact windowsLegal_reads.of_frame (frame_homeDone _ x _) (by decide) h
  · refine windowsLegal_reads.of_frame
      ((frame_enterRoll _ x _).seq (rs := [.rolls, .soak, .causes]) (frame_settleDepth _ x) (by decide))
      (by decide) ?_
    split
    · exact h.emptyWindow x
    · exact h

theorem homeRollWork_windowsLegal (p : Port) (b : Byte) (h : s.windowsLegal) :
    (homeRollWork p b s).state.windowsLegal := by
  unfold homeRollWork
  split
  · exact h
  · split_ifs
    iterate 3 exact h
    exact startHome_windowsLegal _ _ h

/-- A write that is taken keeps the window size of the active style, whose yarn group is refused. -/
theorem writeStyleWork_windowsLegal (p : Port) (w : StyleWrite) (h : s.windowsLegal) :
    (writeStyleWork p w s).state.windowsLegal := by
  unfold writeStyleWork
  dsimp only
  split_ifs with hunlisted hbusy hactive hrange
  iterate 4 exact h
  all_goals
    have hwritten : ({ s with settings := { s.settings with
        styles := s.settings.styles.set (s.port p).selected
          (w.apply (s.settings.styles.get (s.port p).selected)) } } : State).windowsLegal := by
      have hyarn : ((s.settings.styles.set (s.port p).selected
          (w.apply (s.settings.styles.get (s.port p).selected))).get s.settings.active).yarn = s.style.yarn := by
        rw [PerStyle.get_set]
        split
        · next hsame =>
          rw [← hsame]
          cases w <;> simp_all [StyleWrite.isYarn, StyleWrite.apply, State.style]
        · rfl
      intro x
      rw [State.style, hyarn]
      exact h x
  · exact windowsLegal_reads.of_frame (frame_settleDepths _) (by decide) hwritten
  · exact hwritten

theorem activateStyleWork_windowsLegal (b : Byte) (h : s.windowsLegal) :
    (activateStyleWork b s).state.windowsLegal := by
  unfold activateStyleWork
  split
  · exact h
  · split_ifs
    · exact h
    · exact h
    · exact h
    · exact switchStyle_windowsLegal _ _
    · exact h

theorem doffWork_windowsLegal (h : s.windowsLegal) : (doffWork s).state.windowsLegal := by
  have hclosed : (match s.beams.current with
      | some o => s.closeBeam o .doff
      | none => s).windowsLegal := by
    split
    · exact windowsLegal_reads.of_frame (frame_closeBeam _ _ _) (by decide) h
    · exact h
  unfold doffWork
  split
  · exact h
  · split
    · exact h
    · split
      · exact h
      · dsimp only
        split
        · exact h
        · exact windowsLegal_reads.of_frame (frame_postIf _ _ _) (by decide) (applyPending_windowsLegal hclosed)

/-! ### Pulse counts -/

theorem openSegment_pulsesLegal (x : Box) (c : CauseSet) (h : s.pulsesLegal) : (s.openSegment x c).pulsesLegal := by
  rw [State.openSegment_eq]
  intro y
  by_cases hy : y = x
  · subst hy; rw [State.segment_setSegment_same]; exact Nat.zero_le _
  · rw [State.segment_setSegment_ne s _ hy]; exact h y

theorem openAtBoundary_pulsesLegal (x : Box) (h : s.pulsesLegal) : (s.openAtBoundary x).pulsesLegal := by
  unfold State.openAtBoundary
  dsimp only
  split
  · exact openSegment_pulsesLegal x _ (pulsesLegal_reads.of_frame (frame_setSoak _ x _) (by decide) h)
  · exact openSegment_pulsesLegal x _ h

theorem closeSegment_pulsesLegal (x : Box) (stretch : Option Int) (h : s.pulsesLegal) :
    (s.closeSegment x stretch).state.pulsesLegal :=
  openAtBoundary_pulsesLegal x (pulsesLegal_reads.of_frame (frame_setWindow _ x _) (by decide) h)

theorem pathClear_pulsesLegal (s : State) : s.pathClear.pulsesLegal := by
  rw [State.pathClear_eq]
  intro x
  cases x <;> exact Nat.zero_le _

theorem closeAll_pulsesLegal (h : s.pulsesLegal) : s.closeAll.2.2.pulsesLegal := by
  have htaken : s.takeSequence.pulsesLegal := by
    unfold State.takeSequence
    dsimp only
    split
    · exact h
    · exact pathClear_pulsesLegal s
  have hstretch : s.takeSequence.takeStretch.pulsesLegal :=
    pulsesLegal_reads.of_frame (frame_takeStretch _) (by decide) htaken
  unfold State.closeAll
  dsimp only
  split
  · exact closeSegment_pulsesLegal .b s.takeSequence.line.stretch (closeSegment_pulsesLegal .a _ hstretch)
  · exact closeSegment_pulsesLegal .a s.takeSequence.line.stretch hstretch

theorem liquorPulse_pulsesLegal (x : Box) (h : s.pulsesLegal) : (liquorPulse x s).pulsesLegal := by
  unfold liquorPulse
  split
  · intro y
    by_cases hy : y = x
    · subst hy
      rw [State.segment_setSegment_same]
      dsimp only
      split
      · assumption
      · exact h y
    · rw [State.segment_setSegment_ne s _ hy]; exact h y
  · exact h

/-! ### The millimetres -/

theorem trackMillimetre_windowsLegal (h : s.windowsLegal) : s.trackMillimetre.windowsLegal := by
  have hwound := windowsLegal_reads.of_frame (frame_woundMillimetre ({ s with line := { s.line with
    track := s.line.track + 1 } } : State)) (by decide) h
  unfold State.trackMillimetre
  dsimp only
  split
  · exact hwound
  · refine windowsLegal_reads.of_frame (frame_arriveAll _ _) (by decide) ?_
    exact windowsLegal_reads.of_frame (frame_shiftAll _ _ _) (by decide) (closeAll_windowsLegal hwound)

theorem trackMillimetre_pulsesLegal (h : s.pulsesLegal) : s.trackMillimetre.pulsesLegal := by
  have hwound := pulsesLegal_reads.of_frame (frame_woundMillimetre ({ s with line := { s.line with
    track := s.line.track + 1 } } : State)) (by decide) h
  unfold State.trackMillimetre
  dsimp only
  split
  · exact hwound
  · refine pulsesLegal_reads.of_frame (frame_arriveAll _ _) (by decide) ?_
    exact pulsesLegal_reads.of_frame (frame_shiftAll _ _ _) (by decide) (closeAll_pulsesLegal hwound)

/-- What each millimetre keeps, and the line-state work does not write, a TRACK PULSE keeps. -/
theorem trackPulse_keeps {ps : List Part} {P : State → Prop} (hr : Reads ps P) (ha : apart ps announced = true)
    (hm : ∀ s, P s → P s.trackMillimetre) (h : P s) : P (trackPulse s) := by
  have hmany (n : Nat) : ∀ s, P s → P (State.trackMillimetres n s) := by
    induction n with
    | zero => exact fun _ h => h
    | succ n ih => exact fun s h => ih _ (hm s h)
  refine hmany _ _ (hr.of_frame ?_ ha h)
  exact (frame_trackLineWork s).seq (rs := announced) (frame_withLine _ _) (by decide)

/-! ### Report registers -/

theorem State.reportsLegal.setReport (h : s.reportsLegal) {x : Box} {r : Report} (hr : r.legal = true) :
    (s.setReport x r).reportsLegal := by
  intro y
  by_cases hy : y = x
  · subst hy; rwa [State.report_setReport_same]
  · rw [State.report_setReport_ne s r hy]; exact h y

theorem Report.legal_stale {r : Report} (h : r.legal = true) (hs : r.state ≠ .unknown) :
    ({ r with state := .stale, age := none } : Report).legal = true := by
  simp_all [Report.legal]

theorem makeStale_reportsLegal (x : Box) (hs : (s.report x).state ≠ .unknown) (h : s.reportsLegal) :
    (s.makeStale x).reportsLegal :=
  reportsLegal_reads.of_frame (frame_postIf _ _ _) (by decide) (h.setReport (Report.legal_stale (h x) hs))

theorem ageTimerExpiry_reportsLegal (x : Box) (h : s.reportsLegal) : (ageTimerExpiry x s).reportsLegal := by
  unfold ageTimerExpiry
  split
  · next hfresh => exact makeStale_reportsLegal x (by simp [hfresh]) h
  · exact h

theorem retestAge_reportsLegal (x : Box) (h : s.reportsLegal) : (s.retestAge x).reportsLegal := by
  unfold State.retestAge
  split
  · next hfresh _ =>
    split
    · exact makeStale_reportsLegal x (by simp [hfresh]) h
    · exact h
  all_goals exact h

theorem reportBoxWork_reportsLegal (b : Byte) (c d : Word) (h : s.reportsLegal) :
    (reportBoxWork b c d s).state.reportsLegal := by
  unfold reportBoxWork
  split
  · exact h
  · refine h.setReport ?_
    simp only [Report.legal, clamp]
    split_ifs <;> simp [within] <;> omega

theorem Report.legal_warm {r : Report} (h : r.legal = true) : r.warm.legal = true := by
  unfold Report.warm
  split
  · next hu => simp_all [Report.legal]
  · next hu => exact Report.legal_stale h hu

theorem tick_reportsLegal (h : s.reportsLegal) : s.tick.reportsLegal := by
  have htick (r : Report) (hr : r.legal = true) : r.tick.legal = true := by
    simp only [Report.legal, Report.tick, Option.isSome_map] at hr ⊢
    exact hr
  exact Box.forall_iff.mpr ⟨htick _ (h .a), htick _ (h .b)⟩

/-! ### Every command -/

theorem writeMachineWork_addOnLegal (w : MachineWrite) (h : s.addOnLegal) :
    (writeMachineWork w s).state.addOnLegal := by
  rcases writeMachineWork_cases s w with hw | ⟨-, -, -, -, -, hw⟩ <;> rw [hw]
  · exact h
  obtain ⟨hwindows, hpulses, hreports⟩ := (State.addOnLegal_iff s).mp h
  refine (State.addOnLegal_iff _).mpr ?_
  cases w with
  | geometry g =>
    refine ⟨pathClear_windowsLegal _, pathClear_pulsesLegal _, ?_⟩
    exact reportsLegal_reads.of_frame (frame_afterGeometry _ s) (by decide) hreports
  | measurement =>
    have hframe (t : State) := (frame_retestAge t .a).trans (frame_retestAge _ .b)
    exact ⟨windowsLegal_reads.of_frame (hframe _) (by decide) hwindows,
      pulsesLegal_reads.of_frame (hframe _) (by decide) hpulses,
      retestAge_reportsLegal .b (retestAge_reportsLegal .a hreports)⟩
  | actuators =>
    exact ⟨windowsLegal_reads.of_frame (frame_afterActuators _) (by decide) hwindows,
      pulsesLegal_reads.of_frame (frame_afterActuators _) (by decide) hpulses,
      reportsLegal_reads.of_frame (frame_afterActuators _) (by decide) hreports⟩
  | beam | ports | other => exact ⟨hwindows, hpulses, hreports⟩

theorem warmReports_reportsLegal (h : s.reportsLegal) : s.warmReports.reportsLegal :=
  Box.forall_iff.mpr ⟨Report.legal_warm (h .a), Report.legal_warm (h .b)⟩

theorem startWarm_addOnLegal (hempty : s.addOn.windows = ⟨[], []⟩) (hpulses : s.pulsesLegal)
    (hreports : s.reportsLegal) : s.startWarm.addOnLegal := by
  have hmarked {ps : List Part} {P : State → Prop} (hr : Reads ps P) {t : State} (ht : P t)
      (ha : apart ps [.causes, .beam] = true) : P t.depthsUnknown.retainBeam :=
    hr.of_frame ((frame_depthsUnknown t).seq (frame_retainBeam _) (by decide)) ha ht
  have hsoaked : Frame [.slots, .soak] s ((s.powerStamped.warmSoak .a).warmSoak .b) :=
    (frame_powerStamped s).seq ((frame_warmSoak _ .a).trans (frame_warmSoak _ .b)) (by decide)
  rw [startWarm_eq]
  refine (State.addOnLegal_iff _).mpr ⟨?_, ?_, ?_⟩
  · refine hmarked windowsLegal_reads (windowsLegal_reads.of_frame (frame_warmReports _) (by decide) ?_) (by decide)
    exact windowsLegal_reads.of_frame hsoaked (by decide) (windowsLegal_of_empty hempty)
  · refine hmarked pulsesLegal_reads (pulsesLegal_reads.of_frame (frame_warmReports _) (by decide) ?_) (by decide)
    exact pulsesLegal_reads.of_frame hsoaked (by decide) hpulses
  · refine hmarked reportsLegal_reads (warmReports_reportsLegal ?_) (by decide)
    exact reportsLegal_reads.of_frame hsoaked (by decide) hreports

theorem startCold_addOnLegal (s : State) : s.startCold.addOnLegal := by
  refine (State.addOnLegal_iff _).mpr ⟨pathClear_windowsLegal _, pathClear_pulsesLegal _, ?_⟩
  exact reportsLegal_reads.of_frame (frame_pathClear _) (by decide) fun x => by cases x <;> rfl

theorem cardStart_addOnLegal (retain : Bool) (h : s.addOnLegal) : (cardStart retain s).addOnLegal := by
  obtain ⟨-, hpulses, hreports⟩ := (State.addOnLegal_iff s).mp h
  unfold cardStart
  cases s.startKindFor retain
  · exact startCold_addOnLegal _
  · exact startWarm_addOnLegal rfl (fun x => hpulses x) fun x => hreports x
  · exact startCold_addOnLegal _

end addOn

section commands
variable {c : Instr} {s t : State}

theorem exec_windowsLegal (h : s.windowsLegal) (hc : exec c s = .next t)
    (hm : ∀ hd w, c ≠ .writeMachine hd w) (hstart : ∀ retain, c ≠ .cardStart retain) : t.windowsLegal := by
  cases c
  case trackPulse =>
    cases hc
    exact whenRunning_keeps
      (trackPulse_keeps windowsLegal_reads (by decide) fun _ => trackMillimetre_windowsLegal) h
  case autoLiftExpiry => cases hc; exact whenRunning_keeps autoLiftExpiry_windowsLegal h
  case clearPath =>
    refine windowsLegal_reads.of_request rfl (by decide) hc (fun hg => ?_) h
    simp only [Instr.work, clearPathWork]
    split
    · exact pathClear_windowsLegal _
    · exact hg
  case moveRoll => exact windowsLegal_reads.of_request rfl (by decide) hc (moveRollWork_windowsLegal _ _ _ _) h
  case homeRoll => exact windowsLegal_reads.of_request rfl (by decide) hc (homeRollWork_windowsLegal _ _) h
  case writeStyle => exact windowsLegal_reads.of_request rfl (by decide) hc (writeStyleWork_windowsLegal _ _) h
  case activateStyle =>
    exact windowsLegal_reads.of_request rfl (by decide) hc (activateStyleWork_windowsLegal _) h
  case doff => exact windowsLegal_reads.of_request rfl (by decide) hc doffWork_windowsLegal h
  case writeMachine hd w => exact absurd rfl (hm hd w)
  case cardStart retain => exact absurd rfl (hstart retain)
  all_goals exact windowsLegal_reads.of_exec hc rfl h

theorem exec_pulsesLegal (h : s.pulsesLegal) (hc : exec c s = .next t)
    (hm : ∀ hd w, c ≠ .writeMachine hd w) (hstart : ∀ retain, c ≠ .cardStart retain) : t.pulsesLegal := by
  cases c
  case trackPulse =>
    cases hc
    exact whenRunning_keeps (trackPulse_keeps pulsesLegal_reads (by decide) fun _ => trackMillimetre_pulsesLegal) h
  case liquorPulse x => cases hc; exact whenRunning_keeps (liquorPulse_pulsesLegal x) h
  case clearPath =>
    refine pulsesLegal_reads.of_request rfl (by decide) hc (fun hg => ?_) h
    simp only [Instr.work, clearPathWork]
    split
    · exact pathClear_pulsesLegal _
    · exact hg
  case writeMachine hd w => exact absurd rfl (hm hd w)
  case cardStart retain => exact absurd rfl (hstart retain)
  all_goals exact pulsesLegal_reads.of_exec hc rfl h

theorem exec_reportsLegal (h : s.reportsLegal) (hc : exec c s = .next t)
    (hm : ∀ hd w, c ≠ .writeMachine hd w) (hstart : ∀ retain, c ≠ .cardStart retain) : t.reportsLegal := by
  cases c
  case ageTimerExpiry x => cases hc; exact whenRunning_keeps (ageTimerExpiry_reportsLegal x) h
  case reportBox => exact reportsLegal_reads.of_request rfl (by decide) hc (reportBoxWork_reportsLegal _ _ _) h
  case writeMachine hd w => exact absurd rfl (hm hd w)
  case cardStart retain => exact absurd rfl (hstart retain)
  all_goals exact reportsLegal_reads.of_exec hc rfl h

theorem addOnLegal_reads : Reads [.windows, .styles, .active, .pulses, .reports] State.addOnLegal := by
  intro s t hsame h
  rw [State.addOnLegal_iff] at *
  obtain ⟨hwindows, hpulses, hreports⟩ := h
  exact ⟨windowsLegal_reads s t (fun part hp => hsame part (by revert hp; revert part; decide)) hwindows,
    pulsesLegal_reads s t (fun part hp => hsame part (by revert hp; revert part; decide)) hpulses,
    reportsLegal_reads s t (fun part hp => hsame part (by revert hp; revert part; decide)) hreports⟩

theorem exec_addOnLegal (h : s.addOnLegal) (hc : exec c s = .next t) : t.addOnLegal := by
  by_cases hm : ∃ hd w, c = .writeMachine hd w
  · obtain ⟨hd, w, rfl⟩ := hm
    exact addOnLegal_reads.of_request rfl (by decide) hc (writeMachineWork_addOnLegal w) h
  by_cases hstart : ∃ retain, c = .cardStart retain
  · obtain ⟨retain, rfl⟩ := hstart
    cases hc
    exact cardStart_addOnLegal retain h
  push Not at hm hstart
  rw [State.addOnLegal_iff] at *
  obtain ⟨hwindows, hpulses, hreports⟩ := h
  exact ⟨exec_windowsLegal hwindows hc hm hstart, exec_pulsesLegal hpulses hc hm hstart,
    exec_reportsLegal hreports hc hm hstart⟩

theorem tick_addOnLegal (h : s.addOnLegal) : s.tick.addOnLegal := by
  rw [State.addOnLegal_iff] at *
  obtain ⟨hwindows, hpulses, hreports⟩ := h
  exact ⟨hwindows, hpulses, tick_reportsLegal hreports⟩

end commands

/-- Settles O57: the two units, each by the parts it reads and the commands that write them. -/
theorem stepKeepsLineAndAddOnLegal : Obligations.StepKeepsLineAndAddOnLegal :=
  fun _ _ hl ha hstep =>
    ⟨step_keeps lineLegal_reads lineLegal_reads (by decide) (by decide) (fun _ _ _ _ => exec_lineLegal)
        (fun _ => tick_lineLegal) hl hl hstep,
      step_keeps addOnLegal_reads addOnLegal_reads (by decide) (by decide) (fun _ _ _ _ => exec_addOnLegal)
        (fun _ => tick_addOnLegal) ha ha hstep⟩

end Sys2Proof.Machine
end

section
namespace Sys2Proof.Machine

/-! ### Pressures within the limit (R84, R86, R87) -/

/-- Both commanded pressures and both targets lie within the pressure limit. -/
def State.pressureLegal (s : State) : Prop := ∀ x,
  (s.boxes.pressure.get x).target ≤ s.actuators.pressureLimit
    ∧ (s.boxes.pressure.get x).commanded ≤ s.actuators.pressureLimit

/-- Both roll channels are legal. -/
def State.rollsLegal (s : State) : Prop := ∀ x, s.rollLegal x

theorem State.boxesLegal_iff (s : State) : s.boxesLegal ↔ s.pressureLegal ∧ s.rollsLegal := by
  rw [State.pressureLegal, State.rollsLegal, Box.forall_iff, Box.forall_iff]
  constructor
  · rintro ⟨hta, hca, htb, hcb, ha, hb⟩
    exact ⟨⟨⟨hta, hca⟩, ⟨htb, hcb⟩⟩, ha, hb⟩
  · rintro ⟨⟨⟨hta, hca⟩, ⟨htb, hcb⟩⟩, ha, hb⟩
    exact ⟨hta, hca, htb, hcb, ha, hb⟩

theorem pressureLegal_reads : Reads [.pressure, .machine] State.pressureLegal := by
  intro s t hsame h
  have hpressure : t.boxes.pressure = s.boxes.pressure ∧ _ := hsame .pressure (by decide)
  have hmachine : t.settings.machine = s.settings.machine := hsame .machine (by decide)
  rwa [State.pressureLegal, State.actuators, hmachine, hpressure.1]

section pressure
variable {s : State}

theorem rampToward_le {rate commanded target limit : Nat} (hc : commanded ≤ limit) (ht : target ≤ limit) :
    rampToward rate commanded target ≤ limit := by
  unfold rampToward
  split_ifs <;> omega

theorem rampTimerExpiry_pressureLegal (h : s.pressureLegal) : (rampTimerExpiry s).pressureLegal := by
  have htarget (x : Box) : s.pressureTarget x ≤ s.actuators.pressureLimit := Nat.min_le_left _ _
  exact Box.forall_iff.mpr ⟨⟨htarget .a, rampToward_le (h .a).2 (htarget .a)⟩,
    ⟨htarget .b, rampToward_le (h .b).2 (htarget .b)⟩⟩

/-- An accepted write of the actuators holds the pressures to the new limit. -/
theorem afterActuators_pressureLegal (s : State) : s.afterActuators.pressureLegal := by
  refine pressureLegal_reads.of_frame (ws := [.rolls, .soak, .causes, .events])
    ((frame_checkTravel _ .a).trans (frame_checkTravel _ .b) |>.seq (frame_postIf _ _ _) (by decide)) (by decide) ?_
  exact Box.forall_iff.mpr ⟨⟨Nat.min_le_right _ _, Nat.min_le_right _ _⟩,
    ⟨Nat.min_le_right _ _, Nat.min_le_right _ _⟩⟩

theorem writeMachineWork_pressureLegal (w : MachineWrite) (h : s.pressureLegal) :
    (writeMachineWork w s).state.pressureLegal := by
  rcases writeMachineWork_cases s w with hw | ⟨-, -, -, -, -, hw⟩ <;> rw [hw]
  · exact h
  cases w with
  | geometry g => exact pressureLegal_reads.of_frame (frame_afterGeometry _ s) (by decide) h
  | measurement =>
    exact pressureLegal_reads.of_frame ((frame_retestAge _ .a).trans (frame_retestAge _ .b)) (by decide) h
  | actuators => exact afterActuators_pressureLegal _
  | beam | ports | other => exact h

theorem cardStart_pressureLegal (retain : Bool) (s : State) : (cardStart retain s).pressureLegal := by
  have hcommon (kind : StartKind) : (s.startCommon kind).startAutoLift.pressureLegal :=
    fun x => by cases x <;> exact ⟨Nat.zero_le _, Nat.zero_le _⟩
  unfold cardStart
  cases s.startKindFor retain
  · exact pressureLegal_reads.of_frame (frame_startCold _) (by decide) (hcommon _)
  · exact pressureLegal_reads.of_frame (frame_startWarm _) (by decide) (hcommon _)
  · exact pressureLegal_reads.of_frame (frame_startCold _) (by decide) (hcommon _)

end pressure

theorem exec_pressureLegal {c : Instr} {s t : State} (h : s.pressureLegal) (hc : exec c s = .next t) :
    t.pressureLegal := by
  cases c
  case rampTimerExpiry => cases hc; exact whenRunning_keeps rampTimerExpiry_pressureLegal h
  case cardStart retain => cases hc; exact cardStart_pressureLegal retain s
  case writeMachine => exact pressureLegal_reads.of_request rfl (by decide) hc (writeMachineWork_pressureLegal _) h
  all_goals exact pressureLegal_reads.of_exec hc rfl h

/-! ### What a roll channel's legality reads -/

/-- A channel whose immersion flag follows the depth condition it shows, and whose slot is empty in flight: what a new
evaluation of the depth condition needs. -/
def State.rollReady (s : State) (x : Box) : Prop :=
  (s.soak x).immersed = ((s.roll x).depth != .out)
    ∧ ((s.roll x).state.resetRecord (s.roll x).position ≠ none → (s.roll x).slot = none)

theorem State.rollLegal_iff (s : State) (x : Box) : s.rollLegal x ↔
    (s.roll x).depth = depthOf (s.roll x).state (s.roll x).position (s.dip x) ∧ s.rollReady x := Iff.rfl

/-- Two states that agree in what the legality of a roll channel reads. -/
structure sameRoll (s t : State) (x : Box) : Prop where
  roll : t.roll x = s.roll x
  immersed : (t.soak x).immersed = (s.soak x).immersed
  dip : t.dip x = s.dip x

namespace sameRoll
variable {s t u : State} {x : Box}

theorem refl (s : State) (x : Box) : sameRoll s s x := ⟨rfl, rfl, rfl⟩

theorem trans (h : sameRoll s t x) (h' : sameRoll t u x) : sameRoll s u x :=
  ⟨h'.roll.trans h.roll, h'.immersed.trans h.immersed, h'.dip.trans h.dip⟩

theorem ready (h : sameRoll s t x) (hs : s.rollReady x) : t.rollReady x := by
  unfold State.rollReady
  rw [h.roll, h.immersed]
  exact hs

theorem legal (h : sameRoll s t x) (hs : s.rollLegal x) : t.rollLegal x := by
  rw [State.rollLegal_iff] at *
  refine ⟨?_, h.ready hs.2⟩
  rw [h.roll, h.dip]
  exact hs.1

theorem of_parts (h : ∀ part ∈ [Part.rolls, .soak, .styles, .active], part.same s t) (x : Box) : sameRoll s t x := by
  have hrolls : t.boxes.rolls = s.boxes.rolls := h .rolls (by decide)
  have hsoak : t.monitor.soak = s.monitor.soak := h .soak (by decide)
  have hstyles : t.settings.styles = s.settings.styles := h .styles (by decide)
  have hactive : t.settings.active = s.settings.active := h .active (by decide)
  exact ⟨by simp only [State.roll, hrolls], by simp only [State.soak, hsoak],
    by simp only [State.dip, State.style, hstyles, hactive]⟩

theorem of_frame {ws : List Part} (hf : Frame ws s t) (ha : apart [.rolls, .soak, .styles, .active] ws = true)
    (x : Box) : sameRoll s t x :=
  of_parts (fun part hp => hf.2 part (by simpa using List.all_eq_true.mp ha part hp)) x

theorem foldl {α : Type} {f : State → α → State} (h : ∀ a s, sameRoll s (f s a) x) (l : List α) (s : State) :
    sameRoll s (l.foldl f s) x := by
  induction l generalizing s with
  | nil => exact refl s x
  | cons a l ih => exact (h a s).trans (ih _)

end sameRoll

theorem rollsLegal_reads : Reads [.rolls, .soak, .styles, .active] State.rollsLegal :=
  fun _ _ hsame h x => (sameRoll.of_parts hsame x).legal (h x)

/-! ### The depth condition evaluated anew (R66, R89, R90) -/

section settle
variable {s : State} {x y : Box}

theorem settleDepth_other (s : State) (h : y ≠ x) : sameRoll s (s.settleDepth x) y := by
  rw [State.settleDepth_eq s x _ rfl]
  refine ⟨?_, ?_, ?_⟩
  · rw [State.setSegment_roll, State.setSoak_roll, State.roll_setRoll_ne _ _ h]
  · rw [State.setSegment_soak, State.soak_setSoak_ne _ _ h, State.setRoll_soak]
  · simp [State.dip]

theorem settleDepth_roll (s : State) (x : Box) : (s.settleDepth x).roll x =
    { s.roll x with depth := depthOf (s.roll x).state (s.roll x).position (s.dip x) } := by
  rw [State.settleDepth_eq s x _ rfl, State.setSegment_roll, State.setSoak_roll, State.roll_setRoll_same]

theorem settleDepth_dip (s : State) (x y : Box) : (s.settleDepth x).dip y = s.dip y := by
  rw [State.settleDepth_eq s x _ rfl]
  simp [State.dip]

theorem settleDepth_immersed (h : (s.soak x).immersed = ((s.roll x).depth != .out)) :
    ((s.settleDepth x).soak x).immersed = (depthOf (s.roll x).state (s.roll x).position (s.dip x) != .out) := by
  rw [State.settleDepth_eq s x _ rfl, State.setSegment_soak, State.soak_setSoak_same]
  split
  · next hsame => rw [hsame]; exact h
  · rfl

theorem settleDepth_legal (h : s.rollReady x) : (s.settleDepth x).rollLegal x := by
  refine ⟨?_, ?_, ?_⟩
  · rw [settleDepth_roll, settleDepth_dip]
  · rw [settleDepth_immersed h.1, settleDepth_roll]
  · rw [settleDepth_roll]; exact h.2

theorem settleDepth_rollsLegal (hx : s.rollReady x) (hother : ∀ y, y ≠ x → s.rollLegal y) :
    (s.settleDepth x).rollsLegal := fun y => by
  by_cases hy : y = x
  · subst hy; exact settleDepth_legal hx
  · exact (settleDepth_other s hy).legal (hother y hy)

theorem settleDepths_rollsLegal (h : ∀ x, s.rollReady x) : s.settleDepths.rollsLegal := by
  refine settleDepth_rollsLegal ((settleDepth_other s (by decide)).ready (h .b)) fun y hy => ?_
  cases y
  · exact settleDepth_legal (h .a)
  · exact absurd rfl hy

theorem State.rollsLegal.ready (h : s.rollsLegal) (x : Box) : s.rollReady x := (h x).2

end settle

/-! ### Writes of one roll channel -/

section writes
variable {s : State} {x : Box}

theorem setRoll_other (s : State) (r : RollChannel) {y : Box} (h : y ≠ x) : sameRoll s (s.setRoll x r) y :=
  ⟨State.roll_setRoll_ne s r h, rfl, rfl⟩

/-- A channel written with its depth condition kept is ready for a new evaluation. -/
theorem setRoll_ready (h : s.rollReady x) {r : RollChannel} (hdepth : r.depth = (s.roll x).depth)
    (hslot : r.state.resetRecord r.position ≠ none → r.slot = none) : (s.setRoll x r).rollReady x := by
  rw [State.rollReady, State.roll_setRoll_same, hdepth]
  exact ⟨h.1, hslot⟩

/-- A channel written with its depth condition kept, where that is still the one of the channel written. -/
theorem State.rollsLegal.setRoll (h : s.rollsLegal) {r : RollChannel} (hdepth : r.depth = (s.roll x).depth)
    (hof : r.depth = depthOf r.state r.position (s.dip x))
    (hslot : r.state.resetRecord r.position ≠ none → r.slot = none) : (s.setRoll x r).rollsLegal := fun y => by
  by_cases hy : y = x
  · subst hy
    refine (State.rollLegal_iff _ _).mpr ⟨?_, setRoll_ready (h.ready y) hdepth hslot⟩
    rw [State.roll_setRoll_same]
    exact hof
  · exact (setRoll_other s r hy).legal (h y)

theorem setRoll_settleDepth_rollsLegal (h : s.rollsLegal) {r : RollChannel} (hdepth : r.depth = (s.roll x).depth)
    (hslot : r.state.resetRecord r.position ≠ none → r.slot = none) : ((s.setRoll x r).settleDepth x).rollsLegal :=
  settleDepth_rollsLegal (setRoll_ready (h.ready x) hdepth hslot) fun _ hy => (setRoll_other s r hy).legal (h _)

theorem depthOf_congr {st st' : RollState} (h : st.referenced = st'.referenced) (position dip : Nat) :
    depthOf st position dip = depthOf st' position dip := by simp [depthOf, h]

/-- A state entered that is referenced as the one left. -/
theorem enterRoll_rollsLegal (h : s.rollsLegal) {st : RollState} (href : st.referenced = (s.roll x).state.referenced)
    (hslot : st.resetRecord (s.roll x).position ≠ none → (s.roll x).slot = none) : (s.enterRoll x st).rollsLegal :=
  h.setRoll rfl ((h x).1.trans (depthOf_congr href.symm _ _)) hslot

/-- A completion record laid in the slot of a roll that is not in flight. -/
theorem complete_rollsLegal (h : s.rollsLegal) (c : Completion)
    (hrest : (s.roll x).state.resetRecord (s.roll x).position = none) : (s.complete x c).rollsLegal :=
  rollsLegal_reads.of_frame (frame_postTo _ _ _) (by decide)
    (h.setRoll rfl (h x).1 fun hflight => absurd hrest hflight)

theorem complete_other (s : State) (c : Completion) {y : Box} (hy : y ≠ x) : sameRoll s (s.complete x c) y := by
  refine ⟨?_, rfl, rfl⟩
  rw [State.complete_eq]
  exact PerBox.get_set_ne _ _ hy

/-- A roll becoming unreferenced in UNREF_IDLE, whatever its slot holds. -/
theorem unreference_rollsLegal (h : (s.soak x).immersed = ((s.roll x).depth != .out))
  (hother : ∀ y, y ≠ x → s.rollLegal y) :
    ((s.enterRoll x .unrefIdle).settleDepth x).rollsLegal :=
  settleDepth_rollsLegal ⟨by rw [State.enterRoll, State.roll_setRoll_same]; exact h,
      by rw [State.enterRoll, State.roll_setRoll_same]; exact fun hrecord => absurd rfl hrecord⟩
    fun y hy => (setRoll_other s _ hy).legal (hother y hy)

end writes

/-! ### Motion (R88, R92, R94, R98) -/

section motion
variable {s : State} {x : Box}

/-- A roll channel a step further toward a target, in IDLE on reaching it. -/
def RollChannel.stepped (r : RollChannel) (target : Nat) (onward : RollState) : RollChannel :=
  { r with
    position := stepToward r.position target
    state := if stepToward r.position target = target then .idle else onward
    stepPhase := r.stepPhase - Config.second }

theorem moveStep_eq (s : State) (x : Box) (target : Nat) (onward : RollState) :
    s.moveStep x target onward = (s.setRoll x ((s.roll x).stepped target onward)).settleDepth x := rfl

theorem moveStep_rollsLegal (h : s.rollsLegal) (target : Nat) {onward : RollState}
    (hslot : ∀ p, onward.resetRecord p ≠ none → (s.roll x).slot = none) : (s.moveStep x target onward).rollsLegal :=
      by
  rw [moveStep_eq]
  have hflight (hr : ((s.roll x).stepped target onward).state.resetRecord
      ((s.roll x).stepped target onward).position ≠ none) : ((s.roll x).stepped target onward).slot = none := by
    dsimp only [RollChannel.stepped] at hr ⊢
    refine hslot (stepToward (s.roll x).position target) ?_
    by_cases hreached : stepToward (s.roll x).position target = target
    · simp [hreached, RollState.resetRecord] at hr
    · simpa [hreached] using hr
  exact setRoll_settleDepth_rollsLegal h rfl hflight

theorem homeDone_rollsLegal (h : s.rollsLegal) (f : Flight) : (s.homeDone x f).rollsLegal := by
  have hhome : ((s.setRoll x { s.roll x with position := 0, state := .idle, stepPhase := 0 }).settleDepth
    x).rollsLegal :=
    setRoll_settleDepth_rollsLegal h (by rfl) fun hrecord => absurd rfl hrecord
  refine complete_rollsLegal hhome _ ?_
  rw [settleDepth_roll, State.roll_setRoll_same]
  rfl

/-- A home that has gone too far ends in UNREF_IDLE. -/
theorem homeFail_rollsLegal (h : s.rollsLegal) (c : Completion) :
    ((((s.enterRoll x .unrefIdle).settleDepth x).complete x c).post .rollUnref).rollsLegal := by
  refine rollsLegal_reads.of_frame (frame_post _ _) (by decide) ?_
  refine complete_rollsLegal (unreference_rollsLegal (h.ready x).1 fun y _ => h y) c ?_
  rw [settleDepth_roll, State.enterRoll, State.roll_setRoll_same]
  rfl

theorem rollStep_rollsLegal (h : s.rollsLegal) : (rollStep x s).rollsLegal := by
  have hslot := (h.ready x).2
  unfold rollStep
  dsimp only
  split
  · exact h
  · exact h
  · next target f hstate =>
    have hempty : (s.roll x).slot = none := hslot (by simp [hstate, RollState.resetRecord])
    have hmoved := moveStep_rollsLegal h target (onward := .moving target f) fun _ _ => hempty
    split
    · next hreached =>
      refine complete_rollsLegal hmoved _ ?_
      rw [moveStep_eq, settleDepth_roll, State.roll_setRoll_same]
      simp [RollChannel.stepped, hreached, RollState.resetRecord]
    · exact hmoved
  · next n f hstate =>
    have hempty : (s.roll x).slot = none := hslot (by simp [hstate, RollState.resetRecord])
    split
    · exact homeFail_rollsLegal h _
    · exact setRoll_settleDepth_rollsLegal h rfl fun _ => hempty
  · exact moveStep_rollsLegal h 0 fun _ hrecord => absurd rfl hrecord
  · exact moveStep_rollsLegal h _ fun _ hrecord => absurd rfl hrecord

theorem homeSwitchActive_rollsLegal (level : Bool) (h : s.rollsLegal) : (homeSwitchActive x level s).rollsLegal := by
  have hnoted : (s.noteSwitch x level).rollsLegal := rollsLegal_reads.of_frame (frame_noteSwitch s x level)
    (by decide) h
  unfold homeSwitchActive
  dsimp only
  split
  · split
    · exact homeDone_rollsLegal hnoted _
    · exact hnoted
  all_goals exact hnoted

/-! ### Master moves, homes and their records (R91 to R96) -/

/-- A roll that stands holds no move in flight. -/
theorem resetRecord_of_still {st : RollState} (h : st.inMotion = false) (p : Nat) : st.resetRecord p = none := by
  cases st <;> simp_all [RollState.inMotion, RollState.resetRecord]

theorem emptyWindow_rollsLegal (h : s.rollsLegal) (y : Box) : (s.emptyWindow y).rollsLegal :=
  rollsLegal_reads.of_frame (frame_setWindow s y []) (by decide) h

theorem startMove_rollsLegal (h : s.rollsLegal) (p : Port) (target : Nat)
    (hstill : (s.roll x).state.inMotion = false) (href : (s.roll x).state.referenced = true)
    (hempty : (s.roll x).slot = none) : (s.startMove x p target).rollsLegal := by
  unfold State.startMove
  dsimp only
  split
  · exact complete_rollsLegal h _ (resetRecord_of_still hstill _)
  · split
    · exact enterRoll_rollsLegal (emptyWindow_rollsLegal h x) href.symm fun _ => hempty
    · exact enterRoll_rollsLegal h href.symm fun _ => hempty

theorem moveRollWork_rollsLegal (p : Port) (b m : Byte) (v : Word) (h : s.rollsLegal) :
    (moveRollWork p b m v s).state.rollsLegal := by
  unfold moveRollWork
  split
  · dsimp only
    split_ifs with hfield hmotion href hslot
    iterate 4 exact h
    all_goals exact startMove_rollsLegal h _ _ (by simpa using hmotion) (by simpa using href) (by simpa using hslot)
  all_goals exact h

theorem startHome_rollsLegal (h : s.rollsLegal) (p : Port) (hempty : (s.roll x).slot = none) :
    (s.startHome x p).rollsLegal := by
  unfold State.startHome
  dsimp only
  split
  · exact homeDone_rollsLegal h _
  · split
    · exact setRoll_settleDepth_rollsLegal (emptyWindow_rollsLegal h x) rfl fun _ => hempty
    · exact setRoll_settleDepth_rollsLegal h rfl fun _ => hempty

theorem homeRollWork_rollsLegal (p : Port) (b : Byte) (h : s.rollsLegal) :
    (homeRollWork p b s).state.rollsLegal := by
  unfold homeRollWork
  split
  · exact h
  · split_ifs with hfield hmotion hslot
    iterate 3 exact h
    exact startHome_rollsLegal h _ (by simpa using hslot)

theorem collectWork_rollsLegal (b : Byte) (h : s.rollsLegal) : (collectWork b s).state.rollsLegal := by
  unfold collectWork
  split
  · exact h
  · next x _ =>
    split
    · exact h
    · exact h.setRoll rfl (h x).1 fun _ => rfl

/-! ### Automatic lift and lower, the field reset (R97 to R102) -/

theorem autoLiftRoll_rollsLegal (h : s.rollsLegal) : (s.autoLiftRoll x).rollsLegal := by
  have hempty := emptyWindow_rollsLegal h x
  have hno {st : RollState} (hst : ∀ p, st.resetRecord p = none) (p : Nat) {q : Prop} :
      st.resetRecord p ≠ none → q := fun hne => absurd (hst p) hne
  unfold State.autoLiftRoll
  dsimp only
  split
  · split
    · next hstate => exact enterRoll_rollsLegal hempty (by
        rw [show (s.emptyWindow x).roll x = s.roll x from rfl, hstate]; rfl) (hno (fun _ => rfl) _)
    · next hstate => exact enterRoll_rollsLegal hempty (by
        rw [show (s.emptyWindow x).roll x = s.roll x from rfl, hstate]; rfl) (hno (fun _ => rfl) _)
    · next target f hstate =>
      have hlifted : (s.setRoll x { s.roll x with
          slot := some ⟨.move, .preempted, f.start, some (s.roll x).position, f.port⟩
          state := .autoLift, stepPhase := 0 }).rollsLegal := by
        refine h.setRoll rfl ((h x).1.trans (depthOf_congr ?_ _ _)) (hno (fun _ => rfl) _)
        rw [hstate]; rfl
      intro y
      refine sameRoll.legal ?_ (hlifted y)
      refine ⟨?_, rfl, rfl⟩
      by_cases hy : y = x
      · subst hy
        rw [State.enterRoll, State.roll_setRoll_same, State.roll_setRoll_same, State.complete_eq]
        cases y <;> rfl
      · rw [State.enterRoll, State.roll_setRoll_ne _ _ hy, State.roll_setRoll_ne _ _ hy, State.complete_eq]
        exact PerBox.get_set_ne _ _ hy
    all_goals exact h
  · exact h

theorem autoLiftExpiry_rollsLegal (h : s.rollsLegal) : (autoLiftExpiry s).rollsLegal := by
  unfold autoLiftExpiry
  split
  · exact h
  · exact autoLiftRoll_rollsLegal (autoLiftRoll_rollsLegal
      (rollsLegal_reads.of_frame (frame_withAutoLift s none) (by decide) h))

theorem autoLowerRoll_rollsLegal (h : s.rollsLegal) : (s.autoLowerRoll x).rollsLegal := by
  unfold State.autoLowerRoll
  dsimp only
  split
  · split
    · next hstate =>
      split
      · exact enterRoll_rollsLegal h (by rw [hstate]; rfl) fun hrecord => absurd rfl hrecord
      · exact h
    · next hstate => exact enterRoll_rollsLegal h (by rw [hstate]; rfl) fun hrecord => absurd rfl hrecord
    all_goals exact h
  · exact h

theorem boxesAnnounce_rollsLegal (old new : LineState) (h : s.rollsLegal) : (s.boxesAnnounce old new).rollsLegal := by
  have htimer (t : Option Timer) : ({ s with boxes := { s.boxes with autoLift := t } } : State).rollsLegal :=
    rollsLegal_reads.of_frame (frame_withAutoLift s t) (by decide) h
  unfold State.boxesAnnounce
  dsimp only
  split
  · exact htimer _
  · split
    · split
      · exact autoLowerRoll_rollsLegal (autoLowerRoll_rollsLegal (htimer none))
      · exact htimer none
    · exact h

theorem resetRoll_rollsLegal (h : s.rollsLegal) : (s.resetRoll x).rollsLegal := by
  unfold State.resetRoll
  dsimp only
  split
  · split
    · next c _ =>
      refine unreference_rollsLegal ?_ fun y hy => (complete_other s c hy).legal (h y)
      rw [State.complete_eq]
      have hready := (h.ready x).1
      cases x <;> exact hready
    · exact unreference_rollsLegal (h.ready x).1 fun y _ => h y
  · exact h

end motion

end Sys2Proof.Machine
end

section
namespace Sys2Proof.Machine

section rolls
variable {s : State} {x : Box}

theorem setSoak_sameRoll (s : State) (x : Box) {c : SoakChannel} (hc : c.immersed = (s.soak x).immersed) (y : Box) :
    sameRoll s (s.setSoak x c) y := by
  refine ⟨rfl, ?_, rfl⟩
  by_cases hy : y = x
  · subst hy; rwa [State.soak_setSoak_same]
  · rw [State.soak_setSoak_ne s c hy]

/-! ### The field reset (R101) -/

theorem resetFieldWork_rollsLegal (h : s.rollsLegal) : (resetFieldWork s).state.rollsLegal := by
  unfold resetFieldWork
  split
  · exact h
  · refine rollsLegal_reads.of_frame (frame_post _ _) (by decide) (resetRoll_rollsLegal (resetRoll_rollsLegal ?_))
    exact fun y => sameRoll.legal ⟨rfl, rfl, rfl⟩ (h y)

/-! ### The announcements of LINE STATE and the interval timer (R66, R69) -/

theorem monitorLeaveStop_sameRoll (s : State) (y : Box) : sameRoll s s.monitorLeaveStop y := by
  have hdwell : Frame [.slots] s (Zone.all.foldl State.applyDwell s) :=
    Frame.foldl (fun z t => frame_applyDwell t z) Zone.all s
  have hleave (t : State) : sameRoll t { t with monitor := { t.monitor with
      interval := none
      soak := ⟨t.monitor.soak.a.leaveStop, t.monitor.soak.b.leaveStop⟩
      zones := t.monitor.zones.mapWith fun _ c => c.leaveStop } } y :=
    ⟨rfl, by cases y <;> rfl, rfl⟩
  exact (sameRoll.of_frame hdwell (by decide) y).trans (hleave _)

theorem monitorAnnounce_sameRoll (s : State) (old new : LineState) (y : Box) :
    sameRoll s (s.monitorAnnounce old new) y := by
  have hleave : sameRoll s (if old = .stopped ∧ new ≠ .stopped then s.monitorLeaveStop else s) y := by
    split
    · exact monitorLeaveStop_sameRoll s y
    · exact .refl s y
  unfold State.monitorAnnounce
  dsimp only
  split
  · exact hleave.trans (sameRoll.of_frame
      ((frame_addCausesInUse _ .a _).trans (frame_addCausesInUse _ .b _)) (by decide) y)
  · exact hleave.trans ⟨rfl, rfl, rfl⟩
  · exact hleave

theorem changeLineState_rollsLegal (new : LineState) (h : s.rollsLegal) : (s.changeLineState new).rollsLegal := by
  unfold State.changeLineState
  dsimp only
  split
  · exact h
  · refine rollsLegal_reads.of_frame (frame_beamAnnounce _ new) (by decide) (boxesAnnounce_rollsLegal _ new ?_)
    exact fun y => (monitorAnnounce_sameRoll _ _ new y).legal (h y)

theorem standstillTimeout_rollsLegal (h : s.rollsLegal) : (standstillTimeout s).rollsLegal := by
  unfold standstillTimeout
  split
  · exact h
  · exact changeLineState_rollsLegal .stopped fun y => h y

theorem advanceSoak_sameRoll (s : State) (x y : Box) : sameRoll s (s.advanceSoak x) y := by
  unfold State.advanceSoak
  dsimp only
  split
  · split
    · exact (setSoak_sameRoll s x (by rfl) y).trans (sameRoll.of_frame (frame_post _ _) (by decide) y)
    · exact setSoak_sameRoll s x (by rfl) y
  · exact .refl s y

theorem intervalTimerExpiry_rollsLegal (h : s.rollsLegal) : (intervalTimerExpiry s).rollsLegal := by
  unfold intervalTimerExpiry
  split
  · exact h
  · refine rollsLegal_reads.of_frame
      (Frame.foldl (fun z t => frame_advanceZone t z) Zone.all _) (by decide) fun y => ?_
    exact ((advanceSoak_sameRoll _ .a y).trans (advanceSoak_sameRoll _ .b y)).legal (h y)

/-! ### A TRACK PULSE -/

theorem openAtBoundary_sameRoll (s : State) (x y : Box) : sameRoll s (s.openAtBoundary x) y := by
  unfold State.openAtBoundary
  dsimp only
  split
  · exact (setSoak_sameRoll s x (by rfl) y).trans (sameRoll.of_frame (frame_openSegment _ x _) (by decide) y)
  · exact sameRoll.of_frame (frame_openSegment _ x _) (by decide) y

theorem closeSegment_sameRoll (s : State) (x : Box) (stretch : Option Int) (y : Box) :
    sameRoll s (s.closeSegment x stretch).state y :=
  (sameRoll.of_frame (frame_setWindow s x _) (by decide) y).trans (openAtBoundary_sameRoll _ x y)

theorem closeAll_sameRoll (s : State) (y : Box) : sameRoll s s.closeAll.2.2 y := by
  have hstretch : sameRoll s s.takeSequence.takeStretch y :=
    (sameRoll.of_frame (frame_takeSequence s) (by decide) y).trans
      (sameRoll.of_frame (frame_takeStretch _) (by decide) y)
  unfold State.closeAll
  dsimp only
  split
  · exact hstretch.trans ((closeSegment_sameRoll _ .a s.takeSequence.line.stretch y).trans
      (closeSegment_sameRoll _ .b s.takeSequence.line.stretch y))
  · exact hstretch.trans (closeSegment_sameRoll _ .a s.takeSequence.line.stretch y)

theorem trackMillimetre_rollsLegal (h : s.rollsLegal) : s.trackMillimetre.rollsLegal := by
  have hwound := rollsLegal_reads.of_frame (frame_woundMillimetre ({ s with line := { s.line with
    track := s.line.track + 1 } } : State)) (by decide) h
  unfold State.trackMillimetre
  dsimp only
  split
  · exact hwound
  · refine rollsLegal_reads.of_frame (frame_arriveAll _ _) (by decide) ?_
    refine rollsLegal_reads.of_frame (frame_shiftAll _ _ _) (by decide) fun y => ?_
    exact (closeAll_sameRoll _ y).legal (hwound y)

theorem trackLineWork_rollsLegal (h : s.rollsLegal) : s.trackLineWork.rollsLegal := by
  have hline {t : State} (u : LengthUnit) (ht : t.rollsLegal) : (t.withLine u).rollsLegal := fun y => ht y
  unfold State.trackLineWork
  dsimp only
  split
  · exact hline _ (hline _ (changeLineState_rollsLegal .crawl (hline _ h)))
  · refine hline _ ?_
    split
    · exact changeLineState_rollsLegal _ (hline _ (hline _ h))
    · exact hline _ h

/-- What the line-state work and each millimetre keep a TRACK PULSE keeps. -/
theorem trackPulse_induct {P : State → Prop} (hline : P s.trackLineWork)
    (hu : ∀ (t : State) (u : LengthUnit), P t → P (t.withLine u)) (hm : ∀ t, P t → P t.trackMillimetre) :
    P (trackPulse s) := by
  have hmany (n : Nat) : ∀ t, P t → P (State.trackMillimetres n t) := by
    induction n with
    | zero => exact fun _ h => h
    | succ n ih => exact fun t h => ih _ (hm t h)
  exact hmany _ _ (hu _ _ hline)

theorem trackPulse_rollsLegal (h : s.rollsLegal) : (trackPulse s).rollsLegal :=
  trackPulse_induct (trackLineWork_rollsLegal h) (fun _ _ ht y => ht y) fun _ => trackMillimetre_rollsLegal

/-! ### Style sets (R89, R130 to R133) -/

theorem switchStyle_rollsLegal (i : StyleIndex) (h : s.rollsLegal) : (s.switchStyle i).rollsLegal :=
  settleDepths_rollsLegal fun y => by
    have hready := h.ready y
    cases y <;> exact hready

theorem applyPending_rollsLegal (h : s.rollsLegal) : s.applyPending.rollsLegal := by
  unfold State.applyPending
  split
  · exact h
  · dsimp only
    split
    · exact h
    · exact switchStyle_rollsLegal _ fun y => h y

theorem activateStyleWork_rollsLegal (b : Byte) (h : s.rollsLegal) : (activateStyleWork b s).state.rollsLegal := by
  unfold activateStyleWork
  split
  · exact h
  · split_ifs
    · exact h
    · exact fun y => h y
    · exact h
    · exact switchStyle_rollsLegal _ fun y => h y
    · exact fun y => h y

theorem doffWork_rollsLegal (h : s.rollsLegal) : (doffWork s).state.rollsLegal := by
  have hclosed : (match s.beams.current with
      | some o => s.closeBeam o .doff
      | none => s).rollsLegal := by
    split
    · exact rollsLegal_reads.of_frame (frame_closeBeam _ _ _) (by decide) h
    · exact h
  unfold doffWork
  split_ifs
  iterate 3 exact h
  dsimp only
  split
  · exact h
  · refine rollsLegal_reads.of_frame (frame_postIf _ _ _) (by decide) fun y => ?_
    exact applyPending_rollsLegal hclosed y

/-- A written group other than the boxes keeps the dip depths. -/
theorem StyleWrite.apply_boxes {w : StyleWrite} (hw : w.isBoxes = false) (t : Style) : (w.apply t).boxes = t.boxes
  := by
  cases w <;> simp_all [StyleWrite.isBoxes, StyleWrite.apply]

theorem writeStyleWork_rollsLegal (p : Port) (w : StyleWrite) (h : s.rollsLegal) :
    (writeStyleWork p w s).state.rollsLegal := by
  unfold writeStyleWork
  dsimp only
  split_ifs with hunlisted hbusy hactive hrange hboxes
  iterate 4 exact h
  · exact settleDepths_rollsLegal fun y => h.ready y
  · refine fun y => sameRoll.legal (s := s) ⟨rfl, rfl, ?_⟩ (h y)
    have hstyle : ((s.settings.styles.set (s.port p).selected
        (w.apply (s.settings.styles.get (s.port p).selected))).get s.settings.active).boxes = s.style.boxes := by
      rw [PerStyle.get_set]
      split
      · next hsame =>
        rw [StyleWrite.apply_boxes (by simpa [hsame] using hboxes), ← hsame]
        rfl
      · rfl
    show (Style.boxes _).dip.get y = s.style.boxes.dip.get y
    exact hstyle ▸ rfl

/-! ### The machine table (R102) -/

theorem checkTravel_rollsLegal (h : s.rollsLegal) : (s.checkTravel x).rollsLegal := by
  unfold State.checkTravel
  dsimp only
  split
  · exact unreference_rollsLegal (h.ready x).1 fun y _ => h y
  · exact h

theorem afterActuators_rollsLegal (h : s.rollsLegal) : s.afterActuators.rollsLegal := by
  refine rollsLegal_reads.of_frame (frame_postIf _ _ _) (by decide) ?_
  exact checkTravel_rollsLegal (checkTravel_rollsLegal fun y => h y)

/-- Box B where a geometry write removes or creates lane B: an unreferenced roll, immersed, its slot empty. -/
theorem rebox_ready (s : State) (created : Bool) :
    ((s.setRoll .b ((s.roll .b).rebox created)).setSoak .b soakAfresh).rollReady .b := ⟨rfl, fun _ => rfl⟩

theorem afterGeometry_rollsLegal (before : State) (h : ∀ x, s.rollReady x) : (s.afterGeometry before).rollsLegal := by
  refine rollsLegal_reads.of_frame (frame_pathClear _) (by decide) (settleDepths_rollsLegal fun y => ?_)
  dsimp only
  split
  · exact h y
  · cases y
    · exact h .a
    · exact rebox_ready _ _

theorem writeMachineWork_rollsLegal (w : MachineWrite) (h : s.rollsLegal) :
    (writeMachineWork w s).state.rollsLegal := by
  rcases writeMachineWork_cases s w with hw | ⟨-, -, -, -, -, hw⟩ <;> rw [hw]
  · exact h
  cases w with
  | geometry g => exact afterGeometry_rollsLegal s fun y => h.ready y
  | measurement =>
    exact rollsLegal_reads.of_frame ((frame_retestAge _ .a).trans (frame_retestAge _ .b)) (by decide) fun y => h y
  | actuators => exact afterActuators_rollsLegal fun y => h y
  | beam | ports | other => exact fun y => h y

/-! ### The starts (R76, R103) and the microsecond -/

theorem warmSoak_sameRoll (s : State) (x y : Box) : sameRoll s (s.warmSoak x) y := by
  unfold State.warmSoak
  split
  · exact setSoak_sameRoll s x (by rfl) y
  · exact .refl s y

theorem startWarm_sameRoll (s : State) (y : Box) : sameRoll s s.startWarm y := by
  have hstamped := sameRoll.of_frame (frame_powerStamped s) (by decide) y
  have hsoak := (warmSoak_sameRoll s.powerStamped .a y).trans (warmSoak_sameRoll _ .b y)
  have hmarked (t : State) : sameRoll t t.depthsUnknown.retainBeam y :=
    sameRoll.of_frame ((frame_depthsUnknown t).seq (rs := [.causes, .beam]) (frame_retainBeam _) (by decide))
      (by decide) y
  rw [startWarm_eq]
  exact ((hstamped.trans hsoak).trans (sameRoll.of_frame (frame_warmReports _) (by decide) y)).trans (hmarked _)

theorem startCommon_rollsLegal (kind : StartKind) (s : State) : (s.startCommon kind).startAutoLift.rollsLegal :=
  fun y => by cases y <;> exact ⟨rfl, rfl, fun hflight => absurd rfl hflight⟩

theorem startCold_rollsLegal (h : s.rollsLegal) (hunknown : ∀ x, (s.roll x).depth = .unknown) :
    s.startCold.rollsLegal := by
  refine rollsLegal_reads.of_frame (frame_pathClear _) (by decide) fun y => ?_
  refine ⟨(h y).1, ?_, (h y).2.2⟩
  have himmersed : ((s.roll y).depth != .out) = true := by rw [hunknown y]; rfl
  cases y <;> exact himmersed.symm

theorem cardStart_rollsLegal (retain : Bool) (s : State) : (cardStart retain s).rollsLegal := by
  have hcold (kind : StartKind) : ((s.startCommon kind).startAutoLift.startCold).rollsLegal :=
    startCold_rollsLegal (startCommon_rollsLegal kind s) fun x => by cases x <;> rfl
  unfold cardStart
  cases s.startKindFor retain
  · exact hcold _
  · exact fun y => (startWarm_sameRoll _ y).legal (startCommon_rollsLegal _ s y)
  · exact hcold _

theorem RollChannel.tick_fields (rate : Nat) (r : RollChannel) : (r.tick rate).state = r.state
    ∧ (r.tick rate).position = r.position ∧ (r.tick rate).depth = r.depth ∧ (r.tick rate).slot = r.slot := by
  unfold RollChannel.tick
  split <;> exact ⟨rfl, rfl, rfl, rfl⟩

theorem tick_roll (s : State) (x : Box) : s.tick.roll x = (s.roll x).tick s.actuators.stepRate := by
  cases x <;> rfl

theorem tick_rollsLegal (h : s.rollsLegal) : s.tick.rollsLegal := fun y => by
  obtain ⟨hstate, hposition, hdepth, hslot⟩ := RollChannel.tick_fields s.actuators.stepRate (s.roll y)
  have hy := h y
  rw [State.rollLegal, tick_roll, hstate, hposition, hdepth, hslot]
  exact hy

end rolls

/-! ### Every command -/

theorem exec_rollsLegal {c : Instr} {s t : State} (h : s.rollsLegal) (hc : exec c s = .next t) : t.rollsLegal := by
  cases c
  case trackPulse => cases hc; exact whenRunning_keeps trackPulse_rollsLegal h
  case homeSwitchActive x level =>
    cases hc
    split
    · exact homeSwitchActive_rollsLegal level h
    · exact rollsLegal_reads.of_frame (frame_noteSwitch s x level) (by decide) h
  case standstillTimeout => cases hc; exact whenRunning_keeps standstillTimeout_rollsLegal h
  case intervalTimerExpiry => cases hc; exact whenRunning_keeps intervalTimerExpiry_rollsLegal h
  case autoLiftExpiry => cases hc; exact whenRunning_keeps autoLiftExpiry_rollsLegal h
  case rollStep => cases hc; exact whenRunning_keeps rollStep_rollsLegal h
  case cardStart retain => cases hc; exact cardStart_rollsLegal retain s
  case doff => exact rollsLegal_reads.of_request rfl (by decide) hc doffWork_rollsLegal h
  case moveRoll => exact rollsLegal_reads.of_request rfl (by decide) hc (moveRollWork_rollsLegal _ _ _ _) h
  case homeRoll => exact rollsLegal_reads.of_request rfl (by decide) hc (homeRollWork_rollsLegal _ _) h
  case collect => exact rollsLegal_reads.of_request rfl (by decide) hc (collectWork_rollsLegal _) h
  case resetField => exact rollsLegal_reads.of_request rfl (by decide) hc resetFieldWork_rollsLegal h
  case writeStyle => exact rollsLegal_reads.of_request rfl (by decide) hc (writeStyleWork_rollsLegal _ _) h
  case activateStyle => exact rollsLegal_reads.of_request rfl (by decide) hc (activateStyleWork_rollsLegal _) h
  case writeMachine => exact rollsLegal_reads.of_request rfl (by decide) hc (writeMachineWork_rollsLegal _) h
  all_goals exact rollsLegal_reads.of_exec hc rfl h

theorem boxesLegal_reads : Reads [.pressure, .machine, .rolls, .soak, .styles, .active] State.boxesLegal := by
  intro s t hsame h
  rw [State.boxesLegal_iff] at *
  exact ⟨pressureLegal_reads s t (fun part hp => hsame part (by revert hp; revert part; decide)) h.1,
    rollsLegal_reads s t (fun part hp => hsame part (by revert hp; revert part; decide)) h.2⟩

/-- Settles O58: the pressures and the roll channels, each by the parts it reads and the commands that write them. -/
theorem stepKeepsBoxesLegal : Obligations.StepKeepsBoxesLegal := by
  intro s t h hstep
  have hexec (c : Instr) (s t : State) (_ : s.boxesLegal) (h : s.boxesLegal) (hc : exec c s = .next t) :
      t.boxesLegal := by
    rw [State.boxesLegal_iff] at *
    exact ⟨exec_pressureLegal h.1 hc, exec_rollsLegal h.2 hc⟩
  have htick (s : State) (h : s.boxesLegal) : s.tick.boxesLegal := by
    rw [State.boxesLegal_iff] at *
    exact ⟨fun y => h.1 y, tick_rollsLegal h.2⟩
  exact step_keeps boxesLegal_reads boxesLegal_reads (by decide) (by decide) hexec htick h h hstep

end Sys2Proof.Machine
end

section
/-! The beams as chapter 6 promises them: the fault ranges under a placed span, the count of cut marks due under a
millimetre, and the lists of the plan and the store. -/

namespace Sys2Proof.Machine

/-! ### Fault ranges (R115) -/

/-- Ranges ending with one more: those before it end at its start at the latest, and it ends within the length. -/
theorem rangesLegal_concat (wound : Nat) (front : List FaultRange) (r : FaultRange) :
    rangesLegal wound (front ++ [r])
      = (rangesLegal r.start front && decide (r.start < r.finish ∧ r.finish ≤ wound)) := by
  induction front with
  | nil => simp [rangesLegal]
  | cons q rest ih =>
    cases rest with
    | nil => rfl
    | cons q' rest => simp only [List.cons_append, rangesLegal] at ih ⊢; rw [ih, Bool.and_assoc]

theorem rangesLegal_mono {wound wound' : Nat} (hle : wound ≤ wound') {ranges : List FaultRange}
    (h : rangesLegal wound ranges = true) : rangesLegal wound' ranges = true := by
  rcases List.eq_nil_or_concat' ranges with rfl | ⟨front, r, rfl⟩
  · rfl
  · rw [rangesLegal_concat, Bool.and_eq_true, decide_eq_true_eq] at h ⊢
    exact ⟨h.1, h.2.1, h.2.2.trans hle⟩

/-- A span that ends at the wound length is placed among legal ranges: they stay legal, and at most 48. -/
theorem placeSpan_legal {ranges : List FaultRange} {start finish : Nat} (gap : Nat) (causes : CauseSet)
    (h : rangesLegal finish ranges = true) (hlen : ranges.length ≤ Config.maxRanges) (hspan : start < finish) :
    rangesLegal finish (placeSpan ranges start finish gap causes).1 = true
      ∧ (placeSpan ranges start finish gap causes).1.length ≤ Config.maxRanges := by
  rcases List.eq_nil_or_concat' ranges with rfl | ⟨front, last, rfl⟩
  · exact ⟨by simp [placeSpan, rangesLegal, hspan], Nat.succ_pos _⟩
  · have hlast := h
    rw [rangesLegal_concat, Bool.and_eq_true, decide_eq_true_eq] at hlast
    obtain ⟨hfront, hordered, hwithin⟩ := hlast
    rw [List.length_append, List.length_singleton] at hlen
    have hextended (c : CauseSet) (b : Bool) : rangesLegal finish (front ++ [⟨last.start, finish, c, b⟩]) = true := by
      rw [rangesLegal_concat, Bool.and_eq_true, decide_eq_true_eq]
      exact ⟨hfront, hordered.trans_le hwithin, le_rfl⟩
    rw [placeSpan_append]
    split_ifs with hreach hroom
    · exact ⟨hextended _ _, by simpa using hlen⟩
    · refine ⟨?_, by simp only [List.length_append, List.length_singleton]; omega⟩
      rw [rangesLegal_concat, Bool.and_eq_true, decide_eq_true_eq]
      refine ⟨?_, hspan, le_rfl⟩
      rw [rangesLegal_concat, Bool.and_eq_true, decide_eq_true_eq]
      exact ⟨hfront, hordered, by dsimp only; omega⟩
    · exact ⟨hextended _ _, by simpa using hlen⟩

/-! ### A record being wound (R107) -/

/-- A record that is not closed, its cut marks due the closed form of R107 at a marker lead. -/
def BeamRecord.winding (r : BeamRecord) (lead : Nat) : Prop :=
  r.legal = true ∧ r.closeReason = none ∧ r.cutsDue = (r.wound + lead) / r.cutLength

theorem BeamRecord.legal_iff (r : BeamRecord) : r.legal = true ↔ r.ranges.length ≤ Config.maxRanges
    ∧ rangesLegal r.wound r.ranges = true ∧ (20000 ≤ r.cutLength ∧ r.cutLength ≤ 500000)
    ∧ r.wound ≤ Config.maxLong := by
  simp [BeamRecord.legal, within, and_assoc]

/-- One millimetre more raises the whole part of a quotient by at most one, where the next multiple is reached. -/
theorem div_succ_of_due {n c : Nat} (hc : 0 < c) :
    (n + 1) / c = n / c + if (n / c + 1) * c ≤ n + 1 then 1 else 0 := by
  have hlow := Nat.div_mul_le_self n c
  have hhigh : n < (n / c + 1) * c := Nat.lt_mul_of_div_lt (Nat.lt_succ_self _) hc
  have hnext : (n / c + 1 + 1) * c = (n / c + 1) * c + c := Nat.succ_mul _ _
  split_ifs with hdue
  · exact Nat.div_eq_of_lt_le hdue (by omega)
  · have hbelow : n / c * c ≤ n + 1 := hlow.trans (Nat.le_succ n)
    exact Nat.div_eq_of_lt_le hbelow (Nat.lt_of_not_le hdue)

/-- The current beam is as R107 and R115 promise. -/
def State.beamLegal (s : State) : Prop := ∀ o, s.beams.current = some o → o.record.winding s.geometry.markerLead

/-- The plan and the store are as R119 and R121 promise. -/
def State.listsLegal (s : State) : Prop :=
  s.beams.plan.length ≤ Config.maxPlan ∧ (s.beams.plan.all PlanEntry.inRange) = true
    ∧ s.beams.store.length ≤ Config.maxStore ∧ (s.beams.store.all fun r => r.legal && r.closeReason.isSome) = true

theorem State.beamsLegal_iff (s : State) : s.beamsLegal ↔ s.listsLegal ∧ s.beamLegal := by
  rw [State.beamsLegal, State.listsLegal, State.beamLegal]
  cases s.beams.current with
  | none => simp
  | some o => simp [BeamRecord.winding, and_assoc]

theorem beamLegal_reads : Reads [.beam, .machine] State.beamLegal := by
  intro s t hsame h
  have hbeam : t.beams.current = s.beams.current := hsame .beam (by decide)
  have hmachine : t.settings.machine = s.settings.machine := hsame .machine (by decide)
  rwa [State.beamLegal, State.geometry, hbeam, hmachine]

theorem listsLegal_reads : Reads [.beamLists] State.listsLegal := by
  intro s t hsame h
  obtain ⟨hplan, hstore⟩ : t.beams.plan = s.beams.plan ∧ t.beams.store = s.beams.store := hsame .beamLists (by decide)
  rwa [State.listsLegal, hplan, hstore]

section beam
variable {s : State}

theorem beamLegal_of_none (h : s.beams.current = none) : s.beamLegal := fun o ho => by cases h.symm.trans ho

theorem State.beamLegal.setBeam {o : OpenBeam} (h : o.record.winding s.geometry.markerLead) :
    (s.setBeam (some o)).beamLegal := fun o' ho' => by
  cases ho'
  exact h

/-! ### A millimetre and a delivery -/

/-- The record a millimetre leaves: one longer, its cut marks the closed form again. -/
theorem BeamRecord.winding.counted {r : BeamRecord} {lead : Nat} (h : r.winding lead)
    (hroom : r.wound < Config.maxLong) (suppressed : Nat) (overrun : Bool) :
    BeamRecord.winding { r with
      wound := r.wound + 1
      cutsDue := r.cutsDue + if ({ r with wound := r.wound + 1 } : BeamRecord).cutFallsDue lead then 1 else 0
      cutsSuppressed := suppressed
      overrun := overrun } lead := by
  obtain ⟨hlegal, hopen, hdue⟩ := h
  rw [BeamRecord.legal_iff] at hlegal
  obtain ⟨hlen, hranges, hcut, hwound⟩ := hlegal
  refine ⟨(BeamRecord.legal_iff _).mpr ⟨hlen, rangesLegal_mono (Nat.le_succ _) hranges, hcut, hroom⟩, hopen, ?_⟩
  have hstep := div_succ_of_due (n := r.wound + lead) (c := r.cutLength) (by omega)
  simp only [BeamRecord.cutFallsDue, decide_eq_true_eq, hdue]
  rw [Nat.add_right_comm r.wound 1 lead]
  exact hstep.symm

/-- What a millimetre leaves current: nothing or a beam wound at least one millimetre. -/
theorem woundMillimetre_current (h : s.beamLegal) : s.woundMillimetre.beamLegal
    ∧ ∀ o, s.woundMillimetre.beams.current = some o → 1 ≤ o.record.wound := by
  cases hcurrent : s.beams.current with
  | none =>
    rw [State.woundMillimetre_idle hcurrent]
    exact ⟨h, fun o ho => by cases hcurrent.symm.trans ho⟩
  | some o =>
    by_cases hroom : o.record.wound < 4294967295
    · have hwinding := (h o hcurrent).counted hroom
      have hmachine : s.woundMillimetre.settings.machine = s.settings.machine :=
        (frame_woundMillimetre s).2 .machine (by decide)
      rw [State.beamLegal, State.geometry, hmachine, State.woundMillimetre_counted hcurrent hroom, State.testCut_eq,
        State.testPoints_eq rfl, State.testOverrun_eq rfl, State.postIf_eq]
      refine ⟨fun o' ho' => ?_, fun o' ho' => ?_⟩
      · cases ho'
        exact hwinding _ _
      · cases ho'
        exact Nat.succ_pos _
    · rw [State.woundMillimetre_full hcurrent (Nat.le_of_not_lt hroom)]
      exact ⟨h, fun o' ho' => by cases hcurrent.symm.trans ho'; omega⟩

theorem deliver_beamLegal (slot : Option MainRecord) (h : s.beamLegal)
    (hwound : ∀ o, s.beams.current = some o → 1 ≤ o.record.wound) : (s.deliver slot).beamLegal := by
  cases hcurrent : s.beams.current with
  | none => rwa [State.deliver_idle hcurrent]
  | some o =>
    by_cases hroom : o.record.wound < 4294967295
    · rw [State.deliver_taken hcurrent hroom]
      refine beamLegal_reads.of_frame (frame_postIf _ _ _) (by decide) (State.beamLegal.setBeam ?_)
      obtain ⟨hlegal, hopen, hdue⟩ := h o hcurrent
      have hpositive := hwound o hcurrent
      rw [BeamRecord.legal_iff] at hlegal
      obtain ⟨hlen, hranges, hcut, hlong⟩ := hlegal
      have hplaced : rangesLegal o.record.wound (s.rangesAfter o.record slot).1 = true
          ∧ (s.rangesAfter o.record slot).1.length ≤ Config.maxRanges := by
        unfold State.rangesAfter
        split
        · exact placeSpan_legal _ _ hranges hlen (by unfold spanStart Config.segmentLength; omega)
        · exact ⟨hranges, hlen⟩
      have hkept : (o.record.deliver slot).cutLength = o.record.cutLength
          ∧ (o.record.deliver slot).closeReason = o.record.closeReason
          ∧ (o.record.deliver slot).cutsDue = o.record.cutsDue := by cases slot <;> simp [BeamRecord.deliver]
      obtain ⟨hcutLength, hreason, hcutsDue⟩ := hkept
      refine ⟨(BeamRecord.legal_iff _).mpr ?_, hreason.trans hopen, ?_⟩
      · simp only [State.recordAfter, OpenBeam.withRecord, BeamRecord.deliver_wound, hcutLength]
        exact ⟨hplaced.2, hplaced.1, hcut, hlong⟩
      · simp only [State.recordAfter, OpenBeam.withRecord, BeamRecord.deliver_wound, hcutLength, hcutsDue]
        exact hdue
    · rwa [State.deliver_full hcurrent (Nat.le_of_not_lt hroom)]

/-- What the closing of the segments at a boundary can write. -/
def segmentsClosed : List Part := .soak :: .events :: cleared

theorem frame_segmentsClosed (s : State) : Frame segmentsClosed s s.closeAll.2.2 := by
  have ha : Frame segmentsClosed s
      (s.takeSequence.takeStretch.closeSegment .a s.takeSequence.line.stretch).state := by
    refine Frame.seq (ps := segmentsClosed) ?_ (frame_closeSegment _ .a _) (by decide)
    exact (frame_takeSequence s).seq (frame_takeStretch _) (by decide)
  unfold State.closeAll
  dsimp only
  split
  · exact ha.seq (frame_closeSegment _ .b s.takeSequence.line.stretch) (by decide)
  · exact ha

theorem trackMillimetre_beamLegal (h : s.beamLegal) : s.trackMillimetre.beamLegal := by
  obtain ⟨hwound, hpositive⟩ := woundMillimetre_current (s := ({ s with line := { s.line with
    track := s.line.track + 1 } } : State)) h
  unfold State.trackMillimetre
  dsimp only
  split
  · exact hwound
  · generalize State.woundMillimetre _ = w at hwound hpositive
    have hclosed : Frame segmentsClosed w ({ w with line := { w.line with distance := 0 } } : State).closeAll.2.2 :=
      (frame_withLine w { w.line with distance := 0 }).seq (frame_segmentsClosed _) (by decide)
    have harrived (a b : Option LaneRecord) :=
      hclosed.seq (rs := segmentsClosed) ((frame_shiftAll _ a b).trans (frame_gaugeArrival _)) (by decide)
    have hmarked (a b : Option LaneRecord) (now replaced : Option MainRecord) :=
      (harrived a b).seq (rs := .jets :: segmentsClosed) (frame_markerArrival _ now replaced) (by decide)
    refine deliver_beamLegal _ (beamLegal_reads.of_frame (hmarked _ _ _ _) (by decide) hwound) fun o ho => ?_
    exact hpositive o (((hmarked _ _ _ _).2 .beam (by decide)).symm.trans ho)

theorem beamAnnounce_beamLegal (new : LineState) (h : s.beamLegal) : (s.beamAnnounce new).beamLegal := by
  unfold State.beamAnnounce
  split
  · next o ho => exact State.beamLegal.setBeam (h o ho)
  all_goals exact h

theorem changeLineState_beamLegal (new : LineState) (h : s.beamLegal) : (s.changeLineState new).beamLegal := by
  unfold State.changeLineState
  dsimp only
  split
  · exact h
  · refine beamAnnounce_beamLegal new (beamLegal_reads.of_frame
      ((frame_monitorAnnounce _ s.line.lineState new).seq
        (rs := [.slots, .interval, .soak, .zones, .causes, .autoLift, .rolls])
        (frame_boxesAnnounce _ _ new)
        (by decide)) (by decide) h)

theorem standstillTimeout_beamLegal (h : s.beamLegal) : (standstillTimeout s).beamLegal := by
  unfold standstillTimeout
  split
  · exact h
  · exact changeLineState_beamLegal .stopped h

theorem trackLineWork_beamLegal (h : s.beamLegal) : s.trackLineWork.beamLegal := by
  have hline {t : State} (u : LengthUnit) (ht : t.beamLegal) : (t.withLine u).beamLegal := ht
  unfold State.trackLineWork
  dsimp only
  split
  · exact hline _ (hline _ (changeLineState_beamLegal .crawl (hline _ h)))
  · refine hline _ ?_
    split
    · exact changeLineState_beamLegal _ (hline _ (hline _ h))
    · exact hline _ h

theorem trackPulse_beamLegal (h : s.beamLegal) : (trackPulse s).beamLegal :=
  trackPulse_induct (trackLineWork_beamLegal h) (fun _ _ ht => ht) fun _ => trackMillimetre_beamLegal

/-! ### Targets, doffs, the plan and the store (R112, R116 to R122) -/

theorem setTargetWork_beamLegal (m : Word) (h : s.beamLegal) : (setTargetWork m s).state.beamLegal := by
  unfold setTargetWork
  split
  · exact h
  · split
    · exact h
    · next o ho =>
      refine beamLegal_reads.of_frame (frame_postPoints _ _ _) (by decide) (State.beamLegal.setBeam ?_)
      exact h o ho

theorem closeBeam_listsLegal {o : OpenBeam} (reason : CloseReason) (ho : o.record.legal = true) (h : s.listsLegal) :
    (s.closeBeam o reason).listsLegal := by
  refine listsLegal_reads.of_frame (frame_post _ _) (by decide) ?_
  obtain ⟨hlen, hplan, hstore, hclosed⟩ := h
  refine ⟨hlen, hplan, (pushRing_length _ _ _).trans_le (Nat.min_le_right _ _), ?_⟩
  rw [List.all_eq_true] at hclosed ⊢
  intro r hr
  rw [storeBeam_eq] at hr
  rcases List.mem_append.mp (List.mem_of_mem_drop hr) with hr | hr
  · exact hclosed r hr
  · obtain rfl := List.mem_singleton.mp hr
    rw [Bool.and_eq_true]
    exact ⟨ho, rfl⟩

theorem closeBeam_beamLegal (o : OpenBeam) (reason : CloseReason) : (s.closeBeam o reason).beamLegal :=
  beamLegal_reads.of_frame (frame_post _ _) (by decide) (beamLegal_of_none rfl)

/-- The beam a doff opens winds from 0: its cut length is one of the plan or of the beam before it. -/
theorem nextBeam_winding {plan : List PlanEntry} {closed : Option BeamRecord} {style : StyleIndex} {r : BeamRecord}
    {lead : Nat} (hlead : lead ≤ 10000) (hplan : (plan.all PlanEntry.inRange) = true)
    (hclosed : ∀ c, closed = some c → c.legal = true) (h : nextBeam plan closed style = some r) : r.winding lead := by
  have hfresh (number target cut : Nat) (unplanned : Bool) (hcut : 20000 ≤ cut ∧ cut ≤ 500000) :
      (BeamRecord.fresh number target cut unplanned style).winding lead := by
    refine ⟨(BeamRecord.legal_iff _).mpr ⟨Nat.zero_le _, rfl, hcut, Nat.zero_le _⟩, rfl, ?_⟩
    refine (Nat.div_eq_of_lt ?_).symm
    show 0 + lead < cut
    omega
  match plan, closed with
  | e :: rest, _ =>
    cases h
    rw [List.all_cons, Bool.and_eq_true, PlanEntry.inRange, decide_eq_true_eq] at hplan
    exact hfresh _ _ _ _ (by omega)
  | [], some c =>
    cases h
    exact hfresh _ _ _ _ ((BeamRecord.legal_iff c).mp (hclosed c rfl)).2.2.1
  | [], none => cases h

theorem settingsLegal_lead (h : s.settingsLegal) : s.geometry.markerLead ≤ 10000 := by
  have hmachine := h.1
  simp only [Settings.legal, MachineTable.legal, Geometry.inRange, Bool.and_eq_true, decide_eq_true_eq] at hmachine
  tauto

/-- The state a doff closes its beam in. -/
def State.doffClosed (s : State) : State :=
  match s.beams.current with
  | some o => s.closeBeam o .doff
  | none => s

/-- The state with the plan's head taken and a beam opened, PLAN_LOW posted where one entry or none is left. -/
def State.openFromPlan (s : State) (r : BeamRecord) : State :=
  (({ s with beams := { s.beams with plan := s.beams.plan.drop 1 } } : State).openBeam r).postIf
    (decide ((s.beams.plan.drop 1).length ≤ 1)) .planLow

/-- DOFF: refused, or the open beam closed, the pending style applied and the next beam opened. -/
theorem doffWork_eq (s : State) : doffWork s =
    if s.line.lineState ≠ .stopped then .plain s .notStopped
    else if s.beams.current.any fun o => o.record.wound == 0 then .plain s .emptyBeam
    else if s.beams.current.isNone ∧ s.beams.plan = [] then .plain s .planEmpty
    else match nextBeam s.doffClosed.applyPending.beams.plan (s.beams.current.map OpenBeam.record)
        s.doffClosed.applyPending.settings.active with
      | none => .plain s .planEmpty
      | some r => .done (s.doffClosed.applyPending.openFromPlan r) .ok (doffData r) := rfl

theorem doffClosed_listsLegal (hl : s.listsLegal) (hb : s.beamLegal) : s.doffClosed.listsLegal := by
  unfold State.doffClosed
  split
  · next o ho => exact closeBeam_listsLegal .doff (hb o ho).1 hl
  · exact hl

theorem frame_doffClosed (s : State) : Frame [.beam, .beamLists, .events] s s.doffClosed := by
  unfold State.doffClosed
  split
  · exact frame_closeBeam s _ _
  · exact .refl _ s

theorem openFromPlan_listsLegal (r : BeamRecord) (h : s.listsLegal) : (s.openFromPlan r).listsLegal := by
  obtain ⟨hlen, hplan, hstore⟩ := h
  refine listsLegal_reads.of_frame (frame_postIf _ _ _) (by decide) ⟨?_, ?_, hstore⟩
  · exact (List.drop_sublist 1 s.beams.plan).length_le.trans hlen
  · rw [List.all_eq_true] at hplan ⊢
    exact fun e he => hplan e (List.mem_of_mem_drop he)

theorem openFromPlan_beamLegal {r : BeamRecord} (h : r.winding s.geometry.markerLead) :
    (s.openFromPlan r).beamLegal :=
  beamLegal_reads.of_frame (frame_postIf _ _ _) (by decide) (State.beamLegal.setBeam h)

theorem doffWork_beamsLegal (hset : s.settingsLegal) (hl : s.listsLegal) (hb : s.beamLegal) :
    (doffWork s).state.listsLegal ∧ (doffWork s).state.beamLegal := by
  have hstyled := listsLegal_reads.of_frame (frame_applyPending s.doffClosed) (by decide)
    (doffClosed_listsLegal hl hb)
  have hmachine : s.doffClosed.applyPending.settings.machine = s.settings.machine :=
    ((frame_applyPending _).2 .machine (by decide)).trans ((frame_doffClosed s).2 .machine (by decide))
  have hlead := settingsLegal_lead hset
  rw [State.geometry, ← hmachine] at hlead
  rw [doffWork_eq]
  split_ifs
  iterate 3 exact ⟨hl, hb⟩
  split
  · exact ⟨hl, hb⟩
  · next r hr =>
    refine ⟨openFromPlan_listsLegal r hstyled, openFromPlan_beamLegal (nextBeam_winding hlead hstyled.2.1 ?_ hr)⟩
    intro c hc
    obtain ⟨o, ho, rfl⟩ := Option.map_eq_some_iff.mp hc
    exact (hb o ho).1

theorem closeSetWork_beamsLegal (hl : s.listsLegal) (hb : s.beamLegal) :
    (closeSetWork s).state.listsLegal ∧ (closeSetWork s).state.beamLegal := by
  unfold closeSetWork
  split
  · exact ⟨hl, hb⟩
  · split
    · exact ⟨hl, hb⟩
    · next o ho => exact ⟨closeBeam_listsLegal .closeSet (hb o ho).1 hl, closeBeam_beamLegal o .closeSet⟩

theorem releaseBeamWork_listsLegal (age : Byte) (h : s.listsLegal) : (releaseBeamWork age s).state.listsLegal := by
  unfold releaseBeamWork
  split
  · exact h
  · split
    · exact h
    · obtain ⟨hlen, hplan, hstore, hclosed⟩ := h
      refine ⟨hlen, hplan, (List.length_eraseIdx_le _ _).trans hstore, ?_⟩
      rw [List.all_eq_true] at hclosed ⊢
      exact fun r hr => hclosed r (List.mem_of_mem_eraseIdx hr)

theorem planAppendWork_listsLegal (number target cut : Word) (h : s.listsLegal) :
    (planAppendWork number target cut s).state.listsLegal := by
  unfold planAppendWork
  dsimp only
  split_ifs with hrange hfull
  · exact h
  · exact h
  · obtain ⟨hlen, hplan, hstore⟩ := h
    refine ⟨?_, ?_, hstore⟩
    · show (s.beams.plan ++ [_]).length ≤ Config.maxPlan
      rw [List.length_append, List.length_singleton]
      omega
    · show ((s.beams.plan ++ [_]).all PlanEntry.inRange) = true
      rw [List.all_append, hplan]
      simpa using hrange

/-! ### The machine table and the starts -/

theorem writeMachineWork_beamLegal (w : MachineWrite) (h : s.beamLegal) : (writeMachineWork w s).state.beamLegal := by
  rcases writeMachineWork_cases s w with hw | ⟨-, hopen, -, -, -, hw⟩ <;> rw [hw]
  · exact h
  cases w with
  | geometry g =>
    refine beamLegal_of_none ?_
    exact ((frame_afterGeometry _ s).2 .beam (by decide)).trans (hopen rfl)
  | measurement =>
    exact beamLegal_reads.of_frame ((frame_retestAge _ .a).trans (frame_retestAge _ .b)) (by decide) h
  | actuators => exact beamLegal_reads.of_frame (frame_afterActuators _) (by decide) h
  | beam | ports | other => exact h

theorem startCold_beamsLegal (s : State) : s.startCold.listsLegal ∧ s.startCold.beamLegal :=
  ⟨listsLegal_reads.of_frame (frame_pathClear _) (by decide) ⟨Nat.zero_le _, rfl, Nat.zero_le _, rfl⟩,
    beamLegal_of_none ((frame_pathClear _).2 .beam (by decide))⟩

theorem startWarm_beamLegal (h : s.beamLegal) : s.startWarm.beamLegal := by
  have hsoaked : Frame [.slots, .soak] s ((s.powerStamped.warmSoak .a).warmSoak .b) :=
    (frame_powerStamped s).seq ((frame_warmSoak _ .a).trans (frame_warmSoak _ .b)) (by decide)
  have hmarked := (hsoaked.seq (rs := [.slots, .soak, .reports]) (frame_warmReports _) (by decide)).seq
    (rs := [.slots, .soak, .reports, .causes]) (frame_depthsUnknown _) (by decide)
  rw [startWarm_eq]
  have hbefore := beamLegal_reads.of_frame hmarked (by decide) h
  unfold State.retainBeam
  split
  · exact hbefore
  · next o ho => exact State.beamLegal.setBeam (hbefore o ho)

theorem cardStart_beamsLegal (retain : Bool) (hl : s.listsLegal) (hb : s.beamLegal) :
    (cardStart retain s).listsLegal ∧ (cardStart retain s).beamLegal := by
  unfold cardStart
  cases s.startKindFor retain
  · exact startCold_beamsLegal _
  · exact ⟨listsLegal_reads.of_frame (frame_startWarm _) (by decide) hl, startWarm_beamLegal hb⟩
  · exact startCold_beamsLegal _

end beam

/-! ### Every command -/

section commands
variable {c : Instr} {s t : State}

theorem beamsLegal_reads : Reads [.beam, .machine, .beamLists] State.beamsLegal := by
  intro s t hsame h
  rw [State.beamsLegal_iff] at *
  exact ⟨listsLegal_reads s t (fun part hp => hsame part (by revert hp; revert part; decide)) h.1,
    beamLegal_reads s t (fun part hp => hsame part (by revert hp; revert part; decide)) h.2⟩

theorem exec_beamsLegal (hset : s.settingsLegal) (h : s.beamsLegal) (hc : exec c s = .next t) : t.beamsLegal := by
  have hworks {hd : Hdr} {k : CmdKind} (hq : request c = some (hd, k))
      (hw : ∀ g : State, g.settingsLegal → g.listsLegal → g.beamLegal →
        (c.work g).state.listsLegal ∧ (c.work g).state.beamLegal) : t.beamsLegal := by
    have hg : (s.grant hd.port).settingsLegal :=
      settingsLegal_reads.of_frame (frame_grant s hd.port) (by decide) hset
    refine beamsLegal_reads.of_request hq (by decide) hc (fun hb => ?_) h
    rw [State.beamsLegal_iff] at *
    exact hw _ hg hb.1 hb.2
  obtain ⟨hl, hb⟩ := (State.beamsLegal_iff s).mp h
  cases c
  case trackPulse =>
    cases hc
    exact (State.beamsLegal_iff _).mpr ⟨listsLegal_reads.of_frame (frame_whenRunning s (frame_trackPulse s))
      (by decide) hl,
      whenRunning_keeps trackPulse_beamLegal hb⟩
  case standstillTimeout =>
    cases hc
    exact (State.beamsLegal_iff _).mpr
      ⟨listsLegal_reads.of_frame (frame_whenRunning s (frame_standstillTimeout s)) (by decide) hl,
        whenRunning_keeps standstillTimeout_beamLegal hb⟩
  case cardStart retain => cases hc; exact (State.beamsLegal_iff _).mpr (cardStart_beamsLegal retain hl hb)
  case doff => exact hworks rfl fun _ => doffWork_beamsLegal
  case closeSet => exact hworks rfl fun _ _ => closeSetWork_beamsLegal
  case setTarget _ m =>
    exact hworks rfl fun g _ hl hb =>
      ⟨listsLegal_reads.of_frame (frame_setTargetWork g m) (by decide) hl, setTargetWork_beamLegal m hb⟩
  case releaseBeam _ age =>
    exact hworks rfl fun g _ hl hb => ⟨releaseBeamWork_listsLegal age hl,
      beamLegal_reads.of_frame (frame_releaseBeamWork g age) (by decide) hb⟩
  case planAppend _ number target cut =>
    exact hworks rfl fun g _ hl hb => ⟨planAppendWork_listsLegal number target cut hl,
      beamLegal_reads.of_frame (frame_planAppendWork g number target cut) (by decide) hb⟩
  case planClear =>
    exact hworks rfl fun g _ hl hb => ⟨⟨Nat.zero_le _, rfl, hl.2.2⟩, hb⟩
  case writeMachine _ w =>
    exact hworks rfl fun g _ hl hb =>
      ⟨listsLegal_reads.of_frame (frame_writeMachineWork g w) (by decide) hl, writeMachineWork_beamLegal w hb⟩
  all_goals exact beamsLegal_reads.of_exec hc rfl h

end commands

/-- Settles O59: the record being wound by what a millimetre, a delivery and a doff leave, the lists by what a doff, a
closing and the plan commands leave. -/
theorem stepKeepsBeamsLegal : Obligations.StepKeepsBeamsLegal :=
  fun _ _ hset h hstep =>
    step_keeps settingsLegal_reads beamsLegal_reads (by decide) (by decide) (fun _ _ _ => exec_beamsLegal)
      (fun _ h => h) hset h hstep

end Sys2Proof.Machine
end

section
/-! Commands of the masters behind the engine's checks: how a listed command is refused, waits behind a lock or is
answered, and what a port keeps for its master. -/

namespace Sys2Proof.Machine

/-! ### A master's command, listed or not -/

/-- Settles O1: a step is the front command by definition. -/
theorem stepRunsFrontCommand : Obligations.StepRunsFrontCommand := by
  intro c rest s hpending
  rw [step, hpending]

/-- Settles O42: each expiry writes its own place. -/
theorem expiriesEndTheirOutputAlone : Obligations.ExpiriesEndTheirOutputAlone := by
  intro s hrun
  refine ⟨?_, ?_, ?_, ?_⟩ <;>
    simp [exec, execFieldResetExpiry, execJetTimerExpiry, execStartUpHoldEnd, State.whenRunning, hrun,
      fieldResetExpiry, jetTimerExpiry, startUpHoldEnd]

/-- A command with a frame is served: a listed one by its own work behind the engine's checks, any other is answered
INVALID. -/
theorem exec_parts {c : Instr} {f : FrameParts} (hc : c.parts = some f) (s : State) :
    (∃ k, request c = some (f.hdr, k) ∧ exec c s = .next (serve f.hdr c.frame (engine f.hdr k c.work) s))
      ∨ exec c s = .next (serve f.hdr c.frame (fun g => .plain g .invalid) s) := by
  cases c <;> cases hc <;> first | exact .inl ⟨_, rfl, rfl⟩ | exact .inr rfl

/-- Settles O4: the engine's checks in their order, each answered on the granted state alone. -/
theorem commonChecksRefuseInOrder : Obligations.CommonChecksRefuseInOrder := by
  refine ⟨fun h code reserved params s ht => ?_, fun c h k s hq ht => ⟨fun hrole => ?_, fun hrole hguard => ?_⟩⟩
  · show Host.Outcome.next (serve h _ (fun g => .plain g .invalid) s) = _
    rw [serve_takes ht]
    exact congrArg _ (answer_grant h s .invalid [])
  · rw [exec_request hq]
    exact run_notPermitted ht hrole
  · rw [exec_request hq]
    exact run_skipped ht hrole hguard

/-- Settles O5: a command behind another port's lock is offered to its own port. -/
theorem lockKeepsOtherPortsWaiting : Obligations.LockKeepsOtherPortsWaiting := by
  intro c f s holder hc hrun hhold hlock hother
  have hlocked : s.lockedOut f.hdr.port = true := by
    rw [State.lockedOut, hlock]
    exact bne_iff_ne.mpr hother
  have hoffer : exec c s = .next (s.offer f.hdr.port c.frame) := by
    rcases exec_parts hc s with ⟨k, -, he⟩ | he <;> rw [he, serve_lockedOut hrun hhold hlocked]
  rw [hoffer]
  refine ⟨?_, fun hidle hrole => ?_⟩
  · obtain ⟨u, hu⟩ := s.offer_eq f.hdr.port c.frame
    exact ⟨u, congrArg _ hu⟩
  · rw [State.offer, if_neg hrole, hidle]

/-! ### The answer (R138, R142, R158) -/

section answer
variable (h : Hdr) (r : Served)

theorem answer_port : (answer h r).port h.port = { r.state.port h.port with
    state := .replying
    reply := some ⟨resultFrame h.tag r.status (r.state.port h.port).attention r.data, false⟩ } :=
  PerPort.get_set_same _ _ _

theorem answer_arbiter : (answer h r).arbiter = { r.state.arbiter with
    lock := if h.hold && !r.dropLock then some h.port else none
    lockGap := none } := rfl

theorem answer_role (p : Port) : (answer h r).role p = r.state.role p := rfl

end answer

/-- A work that leaves the lock to its HOLD flag and carries data with the statuses of R158 alone. -/
def Served.ordinary (r : Served) : Prop :=
  (r.status ≠ .ok → r.status ≠ .clamped → r.status ≠ .started → r.status ≠ .late → r.data = [])
    ∧ r.dropLock = false

@[simp] theorem Served.ordinary_plain (s : State) (status : Status) : (Served.plain s status).ordinary :=
  ⟨fun _ _ _ _ => rfl, rfl⟩

theorem Served.ordinary_done (s : State) {status : Status} (data : List Byte)
    (hs : status = .ok ∨ status = .clamped ∨ status = .started ∨ status = .late) :
    (Served.done s status data).ordinary :=
  ⟨fun h1 h2 h3 h4 => by rcases hs with rfl | rfl | rfl | rfl <;> contradiction, rfl⟩

@[simp] theorem Served.ordinary_ok (s : State) (data : List Byte) : (Served.done s .ok data).ordinary :=
  Served.ordinary_done s data (.inl rfl)

section ordinary
variable (g : State) (p : Port) (b m : Byte) (n : Word)

theorem readSegmentWork_ordinary : (readSegmentWork b n g).ordinary := by
  cases hl : laneOf b with
  | none => simp [readSegmentWork, hl]
  | some l =>
    by_cases hd : n.toNat < g.depth l
    · rw [readSegmentWork_within hl hd]
      cases g.recordBytes n.toNat l
      · exact Served.ordinary_plain _ _
      · exact Served.ordinary_ok _ _
    · simp [readSegmentWork, hl, Nat.not_lt.mp hd]

theorem moveRollWork_ordinary : (moveRollWork p b m n g).ordinary := by
  unfold moveRollWork
  split
  · dsimp only
    split_ifs
    iterate 4 exact Served.ordinary_plain _ _
    · exact Served.ordinary_done _ _ (.inr (.inr (.inl rfl)))
    · exact Served.ordinary_done _ _ (.inr (.inl rfl))
  all_goals exact Served.ordinary_plain _ _

theorem homeRollWork_ordinary : (homeRollWork p b g).ordinary := by
  unfold homeRollWork
  split
  · exact Served.ordinary_plain _ _
  · split_ifs
    iterate 3 exact Served.ordinary_plain _ _
    exact Served.ordinary_done _ _ (.inr (.inr (.inl rfl)))

theorem reportBoxWork_ordinary (d : Word) : (reportBoxWork b n d g).ordinary := by
  unfold reportBoxWork
  split
  · exact Served.ordinary_plain _ _
  · dsimp only
    split
    · exact Served.ordinary_ok _ _
    · exact Served.ordinary_done _ _ (.inr (.inl rfl))

theorem setTargetWork_ordinary : (setTargetWork n g).ordinary := by
  unfold setTargetWork
  split
  · exact Served.ordinary_plain _ _
  · split
    · exact Served.ordinary_plain _ _
    · dsimp only
      split
      · exact Served.ordinary_done _ _ (.inr (.inr (.inr rfl)))
      · exact Served.ordinary_ok _ _

/-- Every work other than that of WRITE ROLES is ordinary: beside the five above each completes OK or without
  effect. -/
theorem work_ordinary (c : Instr) (hroles : ∀ h r0 r1 r2 r3, c ≠ .writeRoles h r0 r1 r2 r3) : (c.work g).ordinary :=
  by
  cases c
  case readSegment => exact readSegmentWork_ordinary g _ _
  case moveRoll => exact moveRollWork_ordinary g _ _ _ _
  case homeRoll => exact homeRollWork_ordinary g _ _
  case reportBox => exact reportBoxWork_ordinary g _ _ _
  case setTarget => exact setTargetWork_ordinary g _
  case writeRoles h r0 r1 r2 r3 => exact absurd rfl (hroles h r0 r1 r2 r3)
  all_goals
    simp only [Instr.work, readStatusWork, findWork, selectStyleWork, readStyleWork, readMachineWork,
      exchangeEventsWork, setAttentionMaskWork, snapWork, State.takeSnapshot, readSnapWork, doffWork_eq, closeSetWork,
      clearPathWork, collectWork, resetFieldWork, zoneHeatWork, writeStyleWork, activateStyleWork, writeMachineWork,
      storeSettingsWork, planAppendWork, planClearWork, releaseBeamWork]
    repeat' split
  all_goals simp

end ordinary

/-- What a command leaves to be answered: the port queue empty and the arbiter as the grant left them, data with the
statuses of R158 alone, and the lock dropped where the port's own role changed. -/
structure Served.answerable (r : Served) (s : State) (p : Port) : Prop where
  queued : (r.state.port p).queued = []
  arbiter : r.state.arbiter = (s.grant p).arbiter
  data : r.status ≠ .ok → r.status ≠ .clamped → r.status ≠ .started → r.status ≠ .late → r.data = []
  dropLock : r.dropLock = false ↔ r.state.role p = s.role p

theorem plain_answerable (s : State) (p : Port) (status : Status) :
    (Served.plain (s.grant p) status).answerable s p where
  queued := by rw [Served.plain, State.grant_port_same]
  arbiter := rfl
  data := fun _ _ _ _ => rfl
  dropLock := ⟨fun _ => rfl, fun _ => rfl⟩

theorem writeRolesWork_lock (p : Port) (r0 r1 r2 r3 : Byte) (g : State) :
    let r := writeRolesWork p r0 r1 r2 r3 g
    (r.status ≠ .ok → r.data = []) ∧ (r.dropLock = false ↔ r.state.role p = g.role p) := by
  simp only [writeRolesWork]
  split
  · exact ⟨fun _ => rfl, ⟨fun _ => rfl, fun _ => rfl⟩⟩
  · split
    · exact ⟨fun _ => rfl, ⟨fun _ => rfl, fun _ => rfl⟩⟩
    · split
      · exact ⟨fun _ => rfl, ⟨fun _ => rfl, fun _ => rfl⟩⟩
      · exact ⟨fun hok => absurd rfl hok, bne_eq_false_iff_eq⟩

theorem work_answerable (c : Instr) {h : Hdr} {k : CmdKind} (hq : request c = some (h, k)) (s : State) :
    (c.work (s.grant h.port)).answerable s h.port := by
  have hframe := frame_work c (s.grant h.port)
  have hengine : apart [.stages, .arbiter] c.workWrites = true := by cases c <;> rfl
  have hkept (part : Part) (hp : part ∈ [Part.stages, .arbiter]) : part.same (s.grant h.port) _ :=
    hframe.2 part (by simpa using List.all_eq_true.mp hengine part hp)
  refine ⟨?_, hkept .arbiter (by decide), ?_, ?_⟩
  · have hqueued := (hkept .stages (by decide) h.port).2.2.1
    rw [hqueued, State.grant_port_same]
  all_goals
    by_cases hroles : ∃ h' r0 r1 r2 r3, c = .writeRoles h' r0 r1 r2 r3
    · obtain ⟨h', r0, r1, r2, r3, rfl⟩ := hroles
      cases hq
      have hlock := writeRolesWork_lock h.port r0 r1 r2 r3 (s.grant h.port)
      first
        | exact fun hok _ _ _ => hlock.1 hok
        | exact hlock.2
    · have hordinary := work_ordinary (s.grant h.port) c fun h' r0 r1 r2 r3 hc => hroles ⟨h', r0, r1, r2, r3, hc⟩
      have hapart : apart [.roles] c.workWrites = true := by
        cases c
        case writeRoles => exact absurd ⟨_, _, _, _, _, rfl⟩ hroles
        all_goals rfl
      have hsame : (c.work (s.grant h.port)).state.settings.roles = s.settings.roles :=
        hframe.2 .roles (by simpa using List.all_eq_true.mp hapart .roles (by decide))
      first
        | exact hordinary.1
        | exact ⟨fun _ => congrArg (PerPort.get · h.port) hsame, fun _ => hordinary.2⟩

theorem answer_spec {h : Hdr} {r : Served} {s : State} (hr : r.answerable s h.port) :
    let t := answer h r
    (t.port h.port).state = .replying ∧ (t.port h.port).queued = []
      ∧ (t.port h.port).reply = some ⟨resultFrame h.tag r.status (t.port h.port).attention r.data, false⟩
      ∧ t.arbiter.pointer = nextPort h.port ∧ t.arbiter.lockGap = none
      ∧ t.arbiter.lock = if h.hold = true ∧ t.role h.port = s.role h.port then some h.port else none := by
  refine ⟨?_, ?_, ?_, ?_, rfl, ?_⟩
  · rw [answer_port]
  · rw [answer_port]; exact hr.queued
  · rw [answer_port]; rfl
  · rw [answer_arbiter, hr.arbiter]; rfl
  · have hrole := hr.dropLock
    rw [answer_arbiter, answer_role]
    cases hdrop : r.dropLock with
    | false => simp [hrole.mp hdrop]
    | true =>
      have hchanged : r.state.role h.port ≠ s.role h.port := fun hsame => by simp [hrole.mpr hsame] at hdrop
      simp [hchanged]

/-- Settles O6: the answer to a command granted, whatever the engine's checks or its own work leave of it. -/
theorem everyGrantedCommandIsAnswered : Obligations.EveryGrantedCommandIsAnswered := by
  intro c f s hc ht
  obtain ⟨r, hr, he⟩ : ∃ r : Served, r.answerable s f.hdr.port ∧ exec c s = .next (answer f.hdr r) := by
    rcases exec_parts hc s with ⟨k, hq, he⟩ | he
    · rw [serve_takes ht] at he
      rcases engine_cases f.hdr k c.work (s.grant f.hdr.port) with hr | hr | hr <;> rw [hr] at he
      · exact ⟨_, plain_answerable s _ _, he⟩
      · exact ⟨_, plain_answerable s _ _, he⟩
      · exact ⟨_, work_answerable c hq s, he⟩
    · rw [serve_takes ht] at he
      exact ⟨_, plain_answerable s _ _, he⟩
  obtain ⟨hstate, hqueued, hreply, hpointer, hgap, hlock⟩ := answer_spec hr
  exact ⟨_, r.status, r.data, he, hstate, hqueued, hreply, hr.data, hpointer, hgap, hlock⟩

end Sys2Proof.Machine
end

section
/-! What a port keeps for its master, the arbiter's choice, and the commands that read: status, masks, selections,
settings, searches; and the squeeze curve. -/

namespace Sys2Proof.Machine

/-! ### A port's own keeping (R139, R144 to R149) -/

section privacy
variable {p : Port} {s t : State} {c : Instr}

/-- Every flag of an event set stands in a port. -/
def holdsEvents (p : Port) (e : EventSet) (u : State) : Prop := flagsWithin e (u.port p).events

theorem flagsWithin_iff {x y : EventSet} :
    flagsWithin x y ↔ ∀ i, x.getLsbD i = true → y.getLsbD i = true := by
  rw [flagsWithin, BitVec.eq_of_getLsbD_eq_iff]
  refine ⟨fun h i hi => ?_, fun h i _ => ?_⟩
  · have hlt : i < 16 := BitVec.lt_of_getLsbD hi
    simpa [hi] using h i hlt
  · have himp := h i
    rw [BitVec.getLsbD_and]
    cases hx : x.getLsbD i
    · rfl
    · rw [himp hx]; rfl

theorem holdsEvents_reads (p : Port) (e : EventSet) : Reads [.taken] (holdsEvents p e) := by
  intro s t hsame h
  have htaken : ∀ q i, (s.port q).events.getLsbD i = true → (t.port q).events.getLsbD i = true :=
    hsame .taken (by decide)
  rw [holdsEvents, flagsWithin_iff] at *
  exact fun i hi => htaken p i (h i hi)

theorem setPort_dropLock_port {q : Port} (hq : p ≠ q) (u : PortUnit) : ((s.setPort q u).dropLock q).port p = s.port
  p := by
  have hset : (s.setPort q u).port p = s.port p := PerPort.get_set_ne _ _ hq
  unfold State.dropLock
  split
  · exact hset
  · exact hset

/-- A break leaves every other port as it was. -/
theorem lineBreak_port {q : Port} (hq : p ≠ q) (s : State) : (s.whenRunning (lineBreak q)).port p = s.port p :=
  whenRunning_keeps (P := fun u => u.port p = s.port p) (fun _ => by
    unfold lineBreak
    split
    · exact setPort_dropLock_port hq _
    · rfl) rfl

/-- What a port keeps passes through every command that writes it on other ports alone. -/
theorem keeps_of_exec {ps : List Part} {P : State → Prop} (hr : Reads ps P)
    (hport : ∀ u v : State, v.port p = u.port p → P u → P v) (ha : apart ps received = true)
    (hc : exec c s = .next t) (hbreak : c ≠ .lineBreak p)
    (hown : (∀ q, c ≠ .lineBreak q) → apart ps c.writes = true ∨ ∃ h k, request c = some (h, k) ∧
      (∀ g, P g → P (c.work g).state))
    (h : P s) : P t := by
  by_cases hb : ∃ q, c = .lineBreak q
  · obtain ⟨q, rfl⟩ := hb
    cases hc
    refine hport s _ (lineBreak_port (fun hpq => hbreak (by rw [hpq])) s) h
  · rcases hown fun q hq => hb ⟨q, hq⟩ with hapart | ⟨hd, k, hq, hw⟩
    · exact hr.of_exec hc hapart h
    · exact hr.of_request hq ha hc (hw _) h

theorem setPort_port_ne {q : Port} (hq : q ≠ p) (g : State) (u : PortUnit) : (g.setPort q u).port p = g.port p :=
  PerPort.get_set_ne _ _ hq.symm

theorem masks_reads (p : Port) (mask : Word) (keep : Bool) :
    Reads [.masks] fun u => (u.port p).mask = mask ∧ (u.port p).keep = keep := by
  intro s t hsame h
  obtain ⟨hmask, hkeep⟩ := hsame .masks (by decide) p
  exact ⟨hmask.trans h.1, hkeep.trans h.2⟩

theorem snapshot_reads (p : Port) (c : Option Snapshot) : Reads [.snapshots] fun u => (u.port p).snapshot = c :=
  fun _ _ hsame h => (hsame .snapshots (by decide) p).trans h

theorem selected_reads (p : Port) (i : StyleIndex) : Reads [.selections] fun u => (u.port p).selected = i :=
  fun _ _ hsame h => (hsame .selections (by decide) p).trans h

/-- Settles O17: each thing a port keeps is a part of the state that its own command, a break and a start alone
write. -/
theorem portStateIsPrivate : Obligations.PortStateIsPrivate := by
  intro c s t p hc hbreak hstart
  refine ⟨fun hown => ?_, fun hown => ?_, fun hown => ?_, fun hown => ?_⟩
  · refine keeps_of_exec (holdsEvents_reads p (s.port p).events) (fun u v hp h => ?_) (by decide) hc hbreak
      (fun hno => ?_) (flagsWithin_iff.mpr fun _ h => h)
    · rwa [holdsEvents, hp]
    · cases c
      case lineBreak q => exact absurd rfl (hno q)
      case cardStart r => exact absurd rfl (hstart r)
      case exchangeEvents h m =>
        refine .inr ⟨h, _, rfl, fun g hg => ?_⟩
        rwa [holdsEvents, Instr.work, exchangeEventsWork, Served.done, setPort_port_ne (hown h m rfl)]
      all_goals exact .inl rfl
  · refine keeps_of_exec (masks_reads p (s.port p).mask (s.port p).keep) (fun u v hp h => ?_) (by decide) hc hbreak
      (fun hno => ?_) ⟨rfl, rfl⟩
    · rwa [hp]
    · cases c
      case lineBreak q => exact absurd rfl (hno q)
      case cardStart r => exact absurd rfl (hstart r)
      case setAttentionMask h m k =>
        refine .inr ⟨h, _, rfl, fun g hg => ?_⟩
        simp only [Instr.work, setAttentionMaskWork]
        split
        · exact hg
        · rwa [Served.done, setPort_port_ne (hown h m k rfl)]
      all_goals exact .inl rfl
  · refine keeps_of_exec (snapshot_reads p (s.port p).snapshot) (fun u v hp h => ?_) (by decide) hc hbreak
      (fun hno => ?_) rfl
    · rwa [hp]
    · cases c
      case lineBreak q => exact absurd rfl (hno q)
      case cardStart r => exact absurd rfl (hstart r)
      case snap h a b =>
        refine .inr ⟨h, _, rfl, fun g hg => ?_⟩
        have htake (x : Snapshot) : ((g.takeSnapshot h.port x).state.port p).snapshot = (s.port p).snapshot := by
          rwa [State.takeSnapshot, Served.done, setPort_port_ne (hown h a b rfl)]
        simp only [Instr.work, snapWork]
        repeat' split
        all_goals first | exact htake _ | exact hg
      all_goals exact .inl rfl
  · refine keeps_of_exec (selected_reads p (s.port p).selected) (fun u v hp h => ?_) (by decide) hc hbreak
      (fun hno => ?_) rfl
    · rwa [hp]
    · cases c
      case lineBreak q => exact absurd rfl (hno q)
      case cardStart r => exact absurd rfl (hstart r)
      case selectStyle h i =>
        refine .inr ⟨h, _, rfl, fun g hg => ?_⟩
        simp only [Instr.work, selectStyleWork]
        split
        · exact hg
        · rwa [Served.done, State.select, setPort_port_ne (hown h i rfl)]
      all_goals exact .inl rfl

end privacy

/-! ### The arbiter's choice (R140) -/

/-- The rotation from a port lists every port, the ranks rising. -/
theorem mem_rotation (first p : Port) : p ∈ rotation first := by
  cases first <;> cases p <;> decide

theorem rotation_sorted (first : Port) :
    (rotation first).Pairwise fun p q => rotationRank first p ≤ rotationRank first q := by
  cases first <;> decide

/-- The first port of the rotation that meets a test has the lowest rank of those that meet it. -/
theorem find_rotation {first q : Port} {f : Port → Bool} (h : (rotation first).find? f = some q) :
    f q = true ∧ ∀ r, f r = true → rotationRank first q ≤ rotationRank first r := by
  obtain ⟨hq, before, after, hlist, hbefore⟩ := List.find?_eq_some_iff_append.mp h
  refine ⟨hq, fun r hr => ?_⟩
  have hsorted := rotation_sorted first
  have hmem := mem_rotation first r
  rw [hlist] at hsorted hmem
  rcases List.mem_append.mp hmem with hin | hin
  · have := hbefore r hin
    rw [hr] at this
    contradiction
  · rcases List.mem_cons.mp hin with rfl | hin
    · exact le_rfl
    · exact List.rel_of_pairwise_cons (List.pairwise_append.mp hsorted).2.1 hin

theorem exists_find_rotation {first p : Port} {f : Port → Bool} (h : f p = true) :
    ∃ q, (rotation first).find? f = some q :=
  Option.isSome_iff_exists.mp (List.find?_isSome.mpr ⟨p, mem_rotation first p, h⟩)

theorem find_rotation_none {first : Port} {f : Port → Bool} (h : ∀ p, f p = false) : (rotation first).find? f = none
  :=
  List.find?_eq_none.mpr fun p _ => by simp [h p]

theorem State.waits_iff (s : State) (p : Port) : s.waits p = true ↔ (s.port p).state = .queued := beq_iff_eq

theorem State.arbitrate_free {s : State} (h : s.arbiter.lock = none) : s.arbitrate =
    ((rotation s.arbiter.pointer).find? s.waitsUrgent).or ((rotation s.arbiter.pointer).find? s.waits) := by
  rw [State.arbitrate, h]

/-- Settles O7: the lock's holder, else the first urgent port of the rotation, else the first that waits. -/
theorem arbiterChoosesByLockUrgencyRotation : Obligations.ArbiterChoosesByLockUrgencyRotation := by
  intro s
  refine ⟨fun holder hlock => ?_, fun hfree p hp => ?_, fun hfree hnone p hp => ?_, fun hfree hnone => ?_⟩
  · simp only [State.arbitrate, hlock, State.waits_iff]
  · obtain ⟨q, hq⟩ := exists_find_rotation (first := s.arbiter.pointer) hp
    exact ⟨q, by rw [State.arbitrate_free hfree, hq, Option.some_or], find_rotation hq⟩
  · obtain ⟨q, hq⟩ := exists_find_rotation (first := s.arbiter.pointer) ((s.waits_iff p).mpr hp)
    obtain ⟨hwaits, hleast⟩ := find_rotation hq
    exact ⟨q, by rw [State.arbitrate_free hfree, hq, find_rotation_none hnone, Option.none_or],
      (s.waits_iff q).mp hwaits, fun r hr => hleast r ((s.waits_iff r).mpr hr)⟩
  · have hidle (p : Port) : s.waits p = false := by
      rw [Bool.eq_false_iff]
      exact fun hp => hnone p ((s.waits_iff p).mp hp)
    have hcalm (p : Port) : s.waitsUrgent p = false := by simp [State.waitsUrgent, hidle p]
    rw [State.arbitrate_free hfree, find_rotation_none hcalm, find_rotation_none hidle]
    rfl

/-! ### READ STATUS, masks and selections (R127, R128, R145, R147) -/

theorem State.statusBytes_length (s : State) : s.statusBytes.length = 38 := by
  unfold State.statusBytes
  simp only [List.length_append]
  rw [u8_length, u16_length, be32_length, be32_length, u8_length, u8_length, u16_length, u8_length, opt16_length,
    u8_length, opt16_length, u16_length, u16_length, flag8_length, u8_length, u32_length, u8_length, u8_length,
    u8_length, flag8_length, u8_length, u8_length, absentByte_length]

theorem State.grant_statusBytes (s : State) (p : Port) : (s.grant p).statusBytes = s.statusBytes := by
  unfold State.statusBytes
  rfl

/-- Settles O13: the bytes are those of the granted state, which differs in what they do not show. -/
theorem readStatusReturnsStatusAndChangesNothing : Obligations.ReadStatusReturnsStatusAndChangesNothing :=
  fun h s => ⟨s.statusBytes_length, fun ha =>
    run_done (t := s) ha (by rw [readStatusWork, State.grant_statusBytes])⟩

theorem settingOf_of_le {b : Byte} (h : b = 0 ∨ b = 1) : settingOf b = some (decide (b = 1)) := by
  rcases h with rfl | rfl <;> rfl

/-- Settles O15: the mask and the KEEP mark behind the grant, and the attention line by its definition. -/
theorem setAttentionMaskSetsMaskAndKeep : Obligations.SetAttentionMaskSetsMaskAndKeep := by
  refine ⟨fun h mask keep s ha => ⟨fun hkeep => ?_, fun h0 h1 => ?_⟩, fun s p => ?_⟩
  · refine run_done ha ?_
    rw [setAttentionMaskWork, settingOf_of_le hkeep]
    dsimp only
    rw [State.grant_port_same, ← State.grant_setPort]
  · refine run_plain ha ?_
    rw [setAttentionMaskWork, settingOf, if_neg h0, if_neg h1]
  · simp only [State.attentionLine, Bool.and_eq_true, Option.isNone_iff_eq_none, PortUnit.attention]
    rw [and_comm]
    refine and_congr ?_ Iff.rfl
    rw [shares, bne_iff_ne, ne_eq, BitVec.eq_of_getLsbD_eq_iff]
    have hzero (i : Nat) : (0 : Word).getLsbD i = false := BitVec.getLsbD_zero
    simp only [BitVec.getLsbD_and, hzero, Bool.and_eq_false_iff, not_forall, not_or, Bool.not_eq_false]
    exact ⟨fun ⟨i, _, hi⟩ => ⟨i, hi⟩, fun ⟨i, hi⟩ => ⟨i, BitVec.lt_of_getLsbD hi.1, hi⟩⟩

theorem styleIndexOf_eq {b : Byte} {i : StyleIndex} (h : b.toNat = i) : styleIndexOf b = some i := by
  rw [styleIndexOf, dif_pos (h ▸ i.isLt)]
  exact congrArg some (Fin.ext h)

theorem styleIndexOf_eq_none {b : Byte} (h : 3 < b.toNat) : styleIndexOf b = none :=
  dif_neg (by omega)

theorem flag8_beq {α : Type} [BEq α] [LawfulBEq α] [DecidableEq α] (x y : α) : flag8 (x == y) =
  [if x = y then 1 else 0] := by
  by_cases h : x = y
  · rw [if_pos h, beq_iff_eq.mpr h]; rfl
  · rw [if_neg h, beq_eq_false_iff_ne.mpr h]; rfl

/-- Every group number of Figure 10-8 names the fields of a style set, and no other does. -/
theorem Style.groupBytes_listed (t : Style) {b : Byte} (h0 : b ≠ 0) (h7 : b.toNat ≤ 7) :
    ∃ fields, t.groupBytes b = some fields := by
  have hb : b = 1 ∨ b = 2 ∨ b = 3 ∨ b = 4 ∨ b = 5 ∨ b = 6 ∨ b = 7 := by bv_omega
  rcases hb with rfl | rfl | rfl | rfl | rfl | rfl | rfl <;> exact ⟨_, rfl⟩

theorem Style.groupBytes_unlisted (t : Style) {b : Byte} (h : b = 0 ∨ 7 < b.toNat) : t.groupBytes b = none := by
  have hb : b ≠ 1 ∧ b ≠ 2 ∧ b ≠ 3 ∧ b ≠ 4 ∧ b ≠ 5 ∧ b ≠ 6 ∧ b ≠ 7 := by
    refine ⟨?_, ?_, ?_, ?_, ?_, ?_, ?_⟩ <;> bv_omega
  obtain ⟨h1, h2, h3, h4, h5, h6, h7⟩ := hb
  rw [Style.groupBytes, if_neg h1, if_neg h2, if_neg h3, if_neg h4, if_neg h5, if_neg h6, if_neg h7]

/-- Every group number of Figure 10-9 names the fields of the machine table, and no other does. -/
theorem MachineTable.groupBytes_listed (m : MachineTable) {b : Byte} (h : b.toNat ≤ 4) :
    ∃ fields, m.groupBytes b = some fields := by
  have hb : b = 0 ∨ b = 1 ∨ b = 2 ∨ b = 3 ∨ b = 4 := by bv_omega
  rcases hb with rfl | rfl | rfl | rfl | rfl <;> exact ⟨_, rfl⟩

theorem MachineTable.groupBytes_unlisted (m : MachineTable) {b : Byte} (h : 4 < b.toNat) : m.groupBytes b = none := by
  have hb : b ≠ 0 ∧ b ≠ 1 ∧ b ≠ 2 ∧ b ≠ 3 ∧ b ≠ 4 := by refine ⟨?_, ?_, ?_, ?_, ?_⟩ <;> bv_omega
  obtain ⟨h0, h1, h2, h3, h4⟩ := hb
  rw [MachineTable.groupBytes, if_neg h0, if_neg h1, if_neg h2, if_neg h3, if_neg h4]

section settings
variable {h : Hdr} {b : Byte} {s : State}

theorem exec_selectStyle_named {i : StyleIndex} (ha : s.admits h .selectStyle) (hi : b.toNat = i) :
    exec (.selectStyle h b) s = .next ((s.setPort h.port { s.port h.port with selected := i }).replied h .ok
      [b, if s.settings.active = i then 1 else 0, if s.pendingStyle = some i then 1 else 0]) := by
  have hmarks : s.styleMarks i
      = [b, if s.settings.active = i then 1 else 0, if s.pendingStyle = some i then 1 else 0] := by
    rw [State.styleMarks, flag8_beq, flag8_beq]
    have hbyte : u8 i = [b] := by rw [u8, ← hi, BitVec.ofNat_toNat, BitVec.setWidth_eq]
    rw [hbyte]
    rfl
  rw [← hmarks]
  refine run_done ha ?_
  rw [selectStyleWork, styleIndexOf_eq hi]
  dsimp only
  rw [State.select, State.grant_port_same, ← State.grant_setPort]
  rfl

theorem exec_readStyle_listed (ha : s.admits h .readStyle) {fields : List Byte}
    (hf : (s.settings.styles.get (s.port h.port).selected).groupBytes b = some fields) :
    exec (.readStyle h b) s
      = .next (s.replied h .ok (s.styleMarks (s.port h.port).selected ++ [b] ++ fields)) := by
  refine run_done (t := s) ha ?_
  have hselected : ((s.grant h.port).port h.port).selected = (s.port h.port).selected := by rw [State.grant_port_same]
  simp only [readStyleWork, hselected]
  rw [show (s.grant h.port).settings = s.settings from rfl, hf]
  rfl

theorem exec_readStyle_unlisted (ha : s.admits h .readStyle) (hb : b = 0 ∨ 7 < b.toNat) :
    exec (.readStyle h b) s = .next (s.replied h .range []) := by
  refine run_plain ha ?_
  rw [readStyleWork, Style.groupBytes_unlisted _ hb]

end settings

/-- Settles O49: the index or the group names what is returned, and what is named changes nothing but the selection.
  -/
theorem selectionsAndReadsOfSettings : Obligations.SelectionsAndReadsOfSettings := by
  intro h b s
  refine ⟨fun ha => ⟨fun i hi => exec_selectStyle_named ha hi, fun hb => run_plain ha ?_⟩,
    fun ha => ⟨exec_readStyle_unlisted ha, fun h0 h7 => ?_⟩,
    fun ha => ⟨fun hb => run_plain ha ?_, fun hb => ?_⟩⟩
  · rw [selectStyleWork, styleIndexOf_eq_none hb]
  · obtain ⟨fields, hf⟩ := (s.settings.styles.get (s.port h.port).selected).groupBytes_listed h0 h7
    exact ⟨fields, hf, exec_readStyle_listed ha hf⟩
  · rw [readMachineWork, MachineTable.groupBytes_unlisted _ hb]
  · obtain ⟨fields, hf⟩ := s.settings.machine.groupBytes_listed hb
    refine ⟨fields, hf, run_done (t := s) ha ?_⟩
    rw [readMachineWork, show (s.grant h.port).settings = s.settings from rfl, hf]

/-! ### Searches (R41, R42) -/

section find
variable {h : Hdr} {lane field mode : Byte} {start : Word} {value : Long} {s : State} {l : Lane} {q : Query}

theorem State.grant_searched (s : State) (p : Port) (l : Lane) : (s.grant p).searched l = s.searched l := by
  cases l <;> rfl

theorem exec_find_refused (ha : s.admits h .find)
    (hr : laneOf lane = none ∨ ∃ l, laneOf lane = some l ∧
      (s.depth l ≤ start.toNat ∨ queryOf l field mode value = none)) :
    exec (.find h lane start field mode value) s = .next (s.replied h .range []) := by
  refine run_plain ha ?_
  rcases hr with hl | ⟨l, hl, hd | hq⟩
  · simp only [findWork, hl]
  · simp only [findWork, hl, State.grant_depth, if_pos hd]
  · simp only [findWork, hl, hq, ite_self]

theorem exec_find_searched (ha : s.admits h .find) (hl : laneOf lane = some l) (hd : start.toNat < s.depth l)
    (hq : queryOf l field mode value = some q) :
    exec (.find h lane start field mode value) s
      = .next (s.replied h .ok (search q ((s.searched l).drop start.toNat) start.toNat 0 0).bytes) := by
  refine run_done (t := s) ha ?_
  simp only [findWork, hl, hq, State.grant_depth, if_neg (Nat.not_le.mpr hd), State.grant_searched]

/-- Settles O25: the search of the slots from the start position on. -/
theorem findReturnsTheFirstMatch : Obligations.FindReturnsTheFirstMatch := by
  intro h lane start field mode value s ha
  refine ⟨fun hl => exec_find_refused ha (.inl hl), fun l hl =>
    ⟨fun hr => exec_find_refused ha (.inr ⟨l, hl, hr⟩), fun q hd hq => ?_⟩⟩
  rw [exec_find_searched ha hl hd hq]
  rcases search_spec q ((s.searched l).drop start.toNat) start.toNat 0 0 with ⟨i, r, hi, htest, hfirst, hend⟩ |
    ⟨hnone, hend⟩
  · exact .inl ⟨i, r, hi, htest, hfirst, by rw [hend]; rfl⟩
  · exact .inr ⟨hnone, by rw [hend, Nat.zero_add, Nat.zero_add]; rfl⟩

end find

/-! ### The squeeze curve (R85) -/

theorem curveIncreases_cons {p q : CurvePoint} {rest : List CurvePoint} (h : curveIncreases (p :: q :: rest) = true) :
    p.speed < q.speed ∧ curveIncreases (q :: rest) = true := by
  simpa [curveIncreases] using h

/-- No point of a rising curve is slower than its first. -/
theorem speed_le_of_mem {first : CurvePoint} {rest : List CurvePoint} (h : curveIncreases (first :: rest) = true)
    {p : CurvePoint} (hp : p ∈ first :: rest) : first.speed ≤ p.speed := by
  induction rest generalizing first with
  | nil => rw [List.mem_singleton.mp hp]
  | cons q rest ih =>
    obtain ⟨hlt, hrest⟩ := curveIncreases_cons h
    rcases List.mem_cons.mp hp with rfl | hp
    · exact le_rfl
    · exact hlt.le.trans (ih hrest hp)

theorem curvePressure_low (first : CurvePoint) (rest : List CurvePoint) {speed : Nat} (h : speed ≤ first.speed) :
    curvePressure (first :: rest) speed = first.pressure := by
  cases rest with
  | nil => rfl
  | cons q rest => rw [curvePressure, if_pos h]

theorem curvePressure_between {p q : CurvePoint} (rest : List CurvePoint) {speed : Nat} (hp : p.speed < speed)
    (hq : speed < q.speed) : curvePressure (p :: q :: rest) speed = interpolate p q speed := by
  rw [curvePressure, if_neg (Nat.not_le.mpr hp), if_pos hq]

theorem curvePressure_beyond {p q : CurvePoint} (rest : List CurvePoint) {speed : Nat} (hp : p.speed < speed)
    (hq : q.speed ≤ speed) : curvePressure (p :: q :: rest) speed = curvePressure (q :: rest) speed := by
  rw [curvePressure, if_neg (Nat.not_le.mpr hp), if_neg (Nat.not_lt.mpr hq)]

/-- At a point's own speed a curve gives the point's pressure. -/
theorem curvePressure_at {first : CurvePoint} {rest : List CurvePoint} (h : curveIncreases (first :: rest) = true)
    {p : CurvePoint} (hp : p ∈ first :: rest) : curvePressure (first :: rest) p.speed = p.pressure := by
  induction rest generalizing first with
  | nil => rw [List.mem_singleton.mp hp]; rfl
  | cons q rest ih =>
    obtain ⟨hlt, hrest⟩ := curveIncreases_cons h
    rcases List.mem_cons.mp hp with rfl | hp
    · exact curvePressure_low _ _ le_rfl
    · have hle := speed_le_of_mem hrest hp
      rw [curvePressure_beyond _ (hlt.trans_le hle) hle, ih hrest hp]

theorem curvePressure_high {first last : CurvePoint} {rest : List CurvePoint} {speed : Nat}
    (h : curveIncreases (first :: rest) = true) (hlast : (first :: rest).getLast? = some last)
    (hs : last.speed ≤ speed) : curvePressure (first :: rest) speed = last.pressure := by
  induction rest generalizing first with
  | nil => cases hlast; rfl
  | cons q rest ih =>
    obtain ⟨hlt, hrest⟩ := curveIncreases_cons h
    rw [List.getLast?_cons_cons] at hlast
    have hle : q.speed ≤ speed := (speed_le_of_mem hrest (List.mem_of_getLast? hlast)).trans hs
    rw [curvePressure_beyond _ (hlt.trans_le hle) hle, ih hrest hlast]

theorem curvePressure_interpolated {first p q : CurvePoint} {rest : List CurvePoint} {i speed : Nat}
    (h : curveIncreases (first :: rest) = true) (hp : (first :: rest)[i]? = some p)
    (hq : (first :: rest)[i + 1]? = some q) (hlow : p.speed < speed) (hhigh : speed < q.speed) :
    curvePressure (first :: rest) speed = interpolate p q speed := by
  induction rest generalizing first i with
  | nil => simp at hq
  | cons r rest ih =>
    obtain ⟨hlt, hrest⟩ := curveIncreases_cons h
    cases i with
    | zero =>
      simp only [List.getElem?_cons_zero, List.getElem?_cons_succ, Option.some.injEq] at hp hq
      subst hp hq
      exact curvePressure_between rest hlow hhigh
    | succ i =>
      rw [List.getElem?_cons_succ] at hp hq
      have hle : r.speed ≤ speed := (speed_le_of_mem hrest (List.mem_of_getElem? hp)).trans hlow.le
      rw [curvePressure_beyond _ (hlt.trans_le hle) hle, ih hrest hp hq]

/-- Settles O35: a rising curve at, below, above and between its points. -/
theorem curveRoundsToNearestPressure : Obligations.CurveRoundsToNearestPressure := by
  intro first rest speed hrising
  refine ⟨curvePressure_low first rest, fun last => curvePressure_high hrising, fun p hp hspeed => ?_,
    fun i p q hp hq hlow hhigh => ?_⟩
  · rw [← hspeed]; exact curvePressure_at hrising hp
  · dsimp only
    rw [curvePressure_interpolated hrising hp hq hlow hhigh]
    exact interpolate_bounds p q speed hlow hhigh

/-- Settles O60: every unit of the state after reset, evaluated. -/
theorem resetIsLegal : Obligations.ResetIsLegal := by
  refine ⟨⟨factorySettings_legal, rfl, rfl, rfl⟩, ?_, ?_, ?_, ?_, ?_, ?_⟩
  · unfold State.lineLegal; decide
  · exact samePath.legal (s := State.reset.pathClear) ⟨rfl, rfl, rfl⟩ (pathClear_pathLegal _)
  · unfold State.addOnLegal; decide
  · unfold State.boxesLegal State.rollLegal; decide
  · unfold State.beamsLegal; decide
  · refine ⟨fun p => by cases p <;> decide, fun p f hf => ?_, by decide, by decide⟩
    cases p <;> cases hf

end Sys2Proof.Machine
end

section
/-! The Port Controllers: characters assembled into a frame, how a frame ends, breaks, replies and the lock gap
timer. -/

namespace Sys2Proof.Machine

section ports
variable {s : State} {p : Port} {f : RxFrame}

theorem whenRunning_running (h : s.power = .running) (g : State → State) : s.whenRunning g = g s := by
  rw [State.whenRunning, if_pos h]

theorem State.portsOpen_of (h : s.hold = none) : s.portsOpen = true := by rw [State.portsOpen, h]; rfl

theorem State.endedFrame_ended (hf : (s.port p).rx = some f) (he : f.ended = true) : s.endedFrame p = some f := by
  rw [State.endedFrame, hf, Option.filter_some, if_pos he]

theorem State.endedFrame_running (hf : (s.port p).rx = some f) (he : f.ended = false) : s.endedFrame p = none := by
  rw [State.endedFrame, hf, Option.filter_some, if_neg (by simp [he])]

theorem State.endedFrame_empty (hf : (s.port p).rx = none) : s.endedFrame p = none := by
  rw [State.endedFrame, hf]
  rfl

/-! ### Breaks, replies and the lock gap timer (R138, R139, R143) -/

theorem State.dropLock_eq (s : State) (p : Port) : s.dropLock p = { s with
    arbiter := if s.arbiter.lock = some p then { s.arbiter with lock := none, lockGap := none } else s.arbiter } := by
  unfold State.dropLock
  split <;> rfl

theorem State.startLockGap_eq (s : State) (p : Port) : s.startLockGap p = { s with
    arbiter := if s.arbiter.lock = some p then
        { s.arbiter with lockGap := some ⟨0, s.settings.machine.lockGap * 1000⟩ }
      else s.arbiter } := by
  unfold State.startLockGap
  split <;> rfl

theorem replySent_eq {r : Reply} (hr : (s.port p).reply = some r) : replySent p s =
    { s.setPort p { s.port p with state := .idle, reply := none } with
      arbiter := if r.linkError = false ∧ s.arbiter.lock = some p then
          { s.arbiter with lockGap := some ⟨0, s.settings.machine.lockGap * 1000⟩ }
        else s.arbiter } := by
  simp only [replySent, hr]
  cases r.linkError with
  | true => rfl
  | false =>
    refine (State.startLockGap_eq _ p).trans ?_
    by_cases hlock : s.arbiter.lock = some p <;> simp [hlock]

/-- Settles O12: each of the four as one whole update. -/
theorem breakReplyEndAndLockGapExpiry : Obligations.BreakReplyEndAndLockGapExpiry := by
  refine ⟨fun s p hrun => ⟨fun hhold => ?_, ?_⟩, fun s p hrun => ⟨fun r hr => ?_, fun hlock hgap => ?_⟩⟩
  · refine congrArg Host.Outcome.next ?_
    rw [whenRunning_running hrun, lineBreak, if_pos (State.portsOpen_of hhold), State.dropLock_eq]
    rfl
  · exact congrArg Host.Outcome.next (whenRunning_running hrun _)
  · exact congrArg Host.Outcome.next ((whenRunning_running hrun _).trans (replySent_eq hr))
  · refine congrArg Host.Outcome.next ((whenRunning_running hrun _).trans ?_)
    obtain ⟨t, ht⟩ := Option.isSome_iff_exists.mp hgap
    simp only [lockGapExpiry, hlock, ht]
    rfl

/-! ### The end of a frame (R136 to R138) -/

theorem PortUnit.discardFrame_eq (u : PortUnit) (f : RxFrame) :
    u.discardFrame f = { u with rx := none, state := if f.begunIdle then .idle else u.state } := by
  unfold PortUnit.discardFrame
  split <;> rfl

theorem State.frameClean_eq (hrole : s.role p ≠ .none) : s.frameClean p f =
    { s.setPort p { s.port p with rx := none, state := .queued, queued := f.bytes } with
      arbiter := if s.arbiter.lock = some p then { s.arbiter with lockGap := none } else s.arbiter } := by
  rw [State.frameClean, if_neg hrole]
  dsimp only
  rw [State.setPort_arbiter]
  split <;> rfl

theorem State.frameClean_none (hrole : s.role p = .none) :
    s.frameClean p f = s.setPort p ((s.port p).discardFrame f) := if_pos hrole

theorem State.frameBad_eq (hrole : s.role p ≠ .none) (byGap : Bool) :
    s.frameBad p f byGap = s.setPort p ((s.port p).linkError f byGap) := if_neg hrole

theorem State.frameBad_none (hrole : s.role p = .none) (byGap : Bool) :
    s.frameBad p f byGap = s.setPort p ((s.port p).discardFrame f) := if_pos hrole

theorem State.frameOver_eq (hrole : s.role p ≠ .none) : s.frameOver p
    = s.setPort p { s.port p with rx := none, events := (s.port p).events ||| Flag.overlap.set } := by
  have hset (u : PortUnit) : (s.setPort p u).postTo p .overlap
      = s.setPort p { u with events := u.events ||| Flag.overlap.set } := by cases p <;> rfl
  rw [State.frameOver]
  dsimp only
  rw [if_neg hrole, hset]
  rfl

theorem State.frameOver_none (hrole : s.role p = .none) : s.frameOver p = s.setPort p { s.port p with rx := none } :=
  if_pos hrole

section commands
variable (hrun : s.power = .running) (hhold : s.hold = none) (hf : (s.port p).rx = some f)
include hrun hhold hf

theorem exec_frameComplete (hidle : f.begunIdle = true) (hended : f.ended = true) (hclean : f.clean = true) :
    exec (.frameComplete p) s = .next (s.frameClean p f) := by
  refine congrArg Host.Outcome.next ((whenRunning_running hrun _).trans ?_)
  simp [frameComplete, State.endedFrame_ended hf hended, State.portsOpen_of hhold, hidle, hclean]

theorem exec_frameInError (hidle : f.begunIdle = true) (hended : f.ended = true) (hclean : f.clean = false) :
    exec (.frameInError p) s = .next (s.frameBad p f false) := by
  refine congrArg Host.Outcome.next ((whenRunning_running hrun _).trans ?_)
  simp [frameInError, State.endedFrame_ended hf hended, State.portsOpen_of hhold, hidle, hclean]

theorem exec_frameOverlap (hidle : f.begunIdle = false) (hended : f.ended = true) :
    exec (.frameOverlap p) s = .next (s.frameOver p) := by
  refine congrArg Host.Outcome.next ((whenRunning_running hrun _).trans ?_)
  simp [frameOverlap, State.endedFrame_ended hf hended, State.portsOpen_of hhold, hidle]

theorem exec_gapLimitExpiry (hended : f.ended = false) : exec (.gapLimitExpiry p) s
    = .next (if f.begunIdle then s.frameBad p f true else s.frameOver p) := by
  refine congrArg Host.Outcome.next ((whenRunning_running hrun _).trans ?_)
  rw [gapLimitExpiry, hf]
  cases hb : f.begunIdle <;> simp [State.portsOpen_of hhold, hended, State.endFrame, hb]

end commands

/-- The cause a frame in error is answered with, the first that applies. -/
theorem RxFrame.linkCause_code (f : RxFrame) (byGap : Bool) :
    let badLength : Prop := ∃ n, f.bytes[1]? = some n ∧ (n.toNat < 7 ∨ 64 < n.toNat)
    (f.framing = true → (f.linkCause byGap).code = 1)
    ∧ (f.framing = false → f.parity = true → (f.linkCause byGap).code = 2)
    ∧ (f.framing = false → f.parity = false → badLength → (f.linkCause byGap).code = 3)
    ∧ (f.framing = false → f.parity = false → ¬badLength →
        (f.linkCause byGap).code = if byGap then 4 else 5) := by
  intro badLength
  have hbad : f.badLength = true ↔ badLength := by
    unfold RxFrame.badLength RxFrame.lengthByte
    cases hn : f.bytes[1]? with
    | none => simp [badLength, hn]
    | some n =>
      have hn' : badLength ↔ n.toNat < 7 ∨ 64 < n.toNat := by simp [badLength, hn]
      rw [hn']
      exact decide_eq_true_iff
  refine ⟨fun hf => ?_, fun hf hp => ?_, fun hf hp hb => ?_, fun hf hp hb => ?_⟩
  · simp [RxFrame.linkCause, hf, LinkCause.code]
  · simp [RxFrame.linkCause, hf, hp, LinkCause.code]
  · simp [RxFrame.linkCause, hf, hp, hbad.mpr hb, LinkCause.code]
  · have hgood : f.badLength = false := by
      rw [Bool.eq_false_iff]
      exact fun h => hb (hbad.mp h)
    cases byGap <;> simp [RxFrame.linkCause, hf, hp, hgood, LinkCause.code]

/-- Settles O11: the role decides between discarding and answering, the frame's own marks decide the rest. -/
theorem frameEndsQueueAnswerOrOverlap : Obligations.FrameEndsQueueAnswerOrOverlap := by
  constructor
  · intro s p f hrun hhold hrole hf dropped
    have hdiscard : s.setPort p ((s.port p).discardFrame f) = dropped := by rw [PortUnit.discardFrame_eq]
    have hover (hidle : f.begunIdle = false) : s.frameOver p = dropped := by
      simp only [dropped, State.frameOver_none hrole, hidle]
      rfl
    refine ⟨fun hidle hended hclean => ?_, fun hidle hended hclean => ?_, fun hidle hended => ?_, fun hended => ?_⟩
    · rw [exec_frameComplete hrun hhold hf hidle hended hclean, State.frameClean_none hrole, hdiscard]
    · rw [exec_frameInError hrun hhold hf hidle hended hclean, State.frameBad_none hrole, hdiscard]
    · rw [exec_frameOverlap hrun hhold hf hidle hended, hover hidle]
    · rw [exec_gapLimitExpiry hrun hhold hf hended, State.frameBad_none hrole, hdiscard]
      cases hidle : f.begunIdle with
      | true => rfl
      | false => exact congrArg Host.Outcome.next (hover hidle)
  · intro s p f hrun hhold hrole hf refused lapped badLength
    have hrefused (byGap : Bool) {cause : Byte} (hc : (f.linkCause byGap).code = cause) :
        s.frameBad p f byGap = refused cause := by
      rw [State.frameBad_eq hrole, ← hc]
      rfl
    have hover : s.frameOver p = lapped := State.frameOver_eq hrole
    obtain ⟨hframing, hparity, hlength, hcheck⟩ := f.linkCause_code false
    obtain ⟨gframing, gparity, glength, ggap⟩ := f.linkCause_code true
    refine ⟨fun hidle hended hclean => ?_, fun hidle hended hclean => ?_, fun hidle hended => ?_,
      fun hidle hended => ?_, fun hidle hended => ?_⟩
    · rw [exec_frameComplete hrun hhold hf hidle hended hclean, State.frameClean_eq hrole]
    · rw [exec_frameInError hrun hhold hf hidle hended hclean]
      exact ⟨fun h1 => congrArg _ (hrefused false (hframing h1)), fun h1 h2 => congrArg _
        (hrefused false (hparity h1 h2)),
        fun h1 h2 h3 => congrArg _ (hrefused false (hlength h1 h2 h3)),
        fun h1 h2 h3 => congrArg _ (hrefused false (hcheck h1 h2 h3))⟩
    · rw [exec_gapLimitExpiry hrun hhold hf hended, if_pos hidle]
      exact ⟨fun h1 => congrArg _ (hrefused true (gframing h1)), fun h1 h2 => congrArg _
        (hrefused true (gparity h1 h2)),
        fun h1 h2 h3 => congrArg _ (hrefused true (glength h1 h2 h3)),
        fun h1 h2 h3 => congrArg _ (hrefused true (ggap h1 h2 h3))⟩
    · rw [exec_frameOverlap hrun hhold hf hidle hended, hover]
    · rw [exec_gapLimitExpiry hrun hhold hf hended, if_neg (by simp [hidle]), hover]

/-! ### Characters (R136) -/

theorem characterReceived_ignored (h : s.hold.isSome = true ∨ (s.port p).inBreak = true) (b : Byte)
    (parity framing : Bool) : characterReceived p b parity framing s = s := by
  refine if_neg ?_
  rcases h with h | h
  · simp [State.portsOpen, Option.isNone_eq_false_iff.mpr h]
  · simp [h]

theorem State.settleFrame_same (h : s.endedFrame p = none) : s.settleFrame p = s := by
  rw [State.settleFrame, h]

/-- A character on a receive stage that holds no frame ended by count is taken. -/
theorem exec_characterReceived (hrun : s.power = .running) (hhold : s.hold = none)
  (hbreak : (s.port p).inBreak = false)
    (hended : s.endedFrame p = none) (b : Byte) (parity framing : Bool) :
    exec (.characterReceived p b parity framing) s
      = .next (s.setPort p ((s.port p).take b parity framing)) := by
  refine congrArg Host.Outcome.next ((whenRunning_running hrun _).trans ?_)
  rw [characterReceived, if_pos (by simp [State.portsOpen_of hhold, hbreak])]
  dsimp only
  rw [State.settleFrame_same hended]

theorem PortUnit.take_lead {u : PortUnit} (hu : u.rx = none) : u.take 0xB4#8 false false = { u with
    rx := some ⟨decide (u.state = .idle), [0xB4#8], 1, false, false, 0⟩
    state := if u.state = .idle then .receiving else u.state } := by
  simp only [PortUnit.take, hu]
  rfl

theorem PortUnit.take_discarded {u : PortUnit} (hu : u.rx = none) {b : Byte} {parity framing : Bool}
    (h : b ≠ 0xB4#8 ∨ parity = true ∨ framing = true) : u.take b parity framing = u := by
  simp only [PortUnit.take, hu]
  refine if_neg ?_
  rintro ⟨hb, hp, hf⟩
  rcases h with h | h | h
  · exact h hb
  · simp [hp] at h
  · simp [hf] at h

theorem PortUnit.take_more {u : PortUnit} (hu : u.rx = some f) (b : Byte) (parity framing : Bool) :
    u.take b parity framing = { u with rx := some { f with
      bytes := if f.bytes.length < 64 then f.bytes ++ [b] else f.bytes
      count := f.count + 1
      framing := f.framing || framing
      parity := f.parity || parity
      gap := 0 } } := by
  simp only [PortUnit.take, hu]
  rfl

theorem State.setPort_self (s : State) (p : Port) : s.setPort p (s.port p) = s := by
  simp [State.setPort, State.port]

/-- Settles O10: what the receive stage takes of a character. -/
theorem charactersAreAssembled : Obligations.CharactersAreAssembled := by
  intro s p b parity framing hrun
  refine ⟨fun hignored => ?_,
    fun hhold hbreak => ⟨fun hempty => ⟨?_, fun hdiscard => ?_⟩, fun f hf hended => ?_⟩⟩
  · exact congrArg Host.Outcome.next ((whenRunning_running hrun _).trans (characterReceived_ignored hignored _ _ _))
  · rintro rfl rfl rfl
    rw [exec_characterReceived hrun hhold hbreak (State.endedFrame_empty hempty), PortUnit.take_lead hempty]
  · rw [exec_characterReceived hrun hhold hbreak (State.endedFrame_empty hempty), PortUnit.take_discarded hempty
      hdiscard,
      State.setPort_self]
  · rw [exec_characterReceived hrun hhold hbreak (State.endedFrame_running hf hended), PortUnit.take_more hf]

/-! ### A clean frame, character by character (R136, R143) -/

/-- A port that has received the first characters of a frame begun in IDLE. -/
def PortUnit.receivingFrame (u : PortUnit) (taken : List Byte) : PortUnit :=
  { u with rx := some ⟨true, taken, taken.length, false, false, 0⟩, state := .receiving }

/-- A frame of which characters are missing has not ended by count. -/
theorem not_ended_of_prefix {taken rest : List Byte} (hrest : rest ≠ [])
    (hlen : ((taken ++ rest)[1]?).map BitVec.toNat = some (taken ++ rest).length) :
    RxFrame.ended ⟨true, taken, taken.length, false, false, 0⟩ = false := by
  match taken with
  | [] => rfl
  | [_] => rfl
  | a :: n :: more =>
    have hn : n.toNat = (a :: n :: more ++ rest).length := by simpa using hlen
    have hpos := List.length_pos_of_ne_nil hrest
    simp only [RxFrame.ended, decide_eq_false_iff_not, hn, List.length_append]
    omega

/-- A whole frame with its length and a matching check word has ended by count and is clean. -/
theorem clean_of_whole {frame : List Byte} (hlow : 7 ≤ frame.length) (hhigh : frame.length ≤ 64)
    (hlen : (frame[1]?).map BitVec.toNat = some frame.length) (hcheck : checkWordMatches frame = true) :
    let f : RxFrame := ⟨true, frame, frame.length, false, false, 0⟩
    f.ended = true ∧ f.clean = true := by
  match frame with
  | [] => simp at hlow
  | [_] => simp at hlow
  | a :: n :: more =>
    have hn : n.toNat = (a :: n :: more).length := by simpa using hlen
    refine ⟨by simp [RxFrame.ended, hn], ?_⟩
    have hgood : RxFrame.badLength ⟨true, a :: n :: more, (a :: n :: more).length, false, false, 0⟩ = false := by
      simp only [RxFrame.badLength, RxFrame.lengthByte, List.getElem?_cons_succ, List.getElem?_cons_zero, hn,
        Config.shortestFrame, Config.frameLimit, decide_eq_false_iff_not]
      omega
    rw [RxFrame.clean, hgood, hcheck]
    rfl

section receive
variable {frame : List Byte} (hrun : s.power = .running) (hhold : s.hold = none) (hrole : s.role p ≠ .none)
  (hlow : 7 ≤ frame.length) (hhigh : frame.length ≤ 64)
  (hlen : (frame[1]?).map BitVec.toNat = some frame.length) (hcheck : checkWordMatches frame = true)
include hrun hhold hrole hlow hhigh hlen hcheck

/-- From any number of characters on, the rest of the frame completes it. -/
theorem execAll_rest (u : PortUnit) (hbreak : u.inBreak = false) {rest taken : List Byte}
  (hframe : taken ++ rest = frame) :
    execAll (rest.map (fun b => .characterReceived p b false false) ++ [.frameComplete p])
        (s.setPort p (u.receivingFrame taken))
      = .next { s.setPort p { u with rx := none, state := .queued, queued := frame } with
          arbiter := if s.arbiter.lock = some p then { s.arbiter with lockGap := none } else s.arbiter } := by
  have hport (taken : List Byte) : (s.setPort p (u.receivingFrame taken)).port p = u.receivingFrame taken :=
    PerPort.get_set_same _ _ _
  have hrx (taken : List Byte) : ((s.setPort p (u.receivingFrame taken)).port p).rx
      = some ⟨true, taken, taken.length, false, false, 0⟩ := by rw [hport]; rfl
  induction rest generalizing taken with
  | nil =>
    obtain ⟨hended, hclean⟩ := clean_of_whole hlow hhigh hlen hcheck
    rw [List.append_nil] at hframe
    subst hframe
    have hdone := exec_frameComplete (s := s.setPort p (u.receivingFrame taken)) hrun hhold (hrx taken) rfl hended
      hclean
    rw [List.map_nil, List.nil_append, execAll, hdone]
    refine congrArg Host.Outcome.next ?_
    rw [State.frameClean_eq (s := s.setPort p (u.receivingFrame taken)) hrole, hport]
    cases p <;> rfl
  | cons b rest ih =>
    have hmore : RxFrame.ended ⟨true, taken, taken.length, false, false, 0⟩ = false :=
      not_ended_of_prefix (rest := b :: rest) nofun (by rw [hframe]; exact hlen)
    have hroom : taken.length < 64 := by
      have := congrArg List.length hframe
      simp only [List.length_append, List.length_cons] at this
      omega
    have hnext : ((s.setPort p (u.receivingFrame taken)).setPort p ((u.receivingFrame taken).take b false false))
        = s.setPort p (u.receivingFrame (taken ++ [b])) := by
      rw [PortUnit.take_more (u := u.receivingFrame taken) rfl, if_pos hroom]
      simp only [State.setPort, PerPort.set_set, PortUnit.receivingFrame, List.length_append]
      rfl
    have htaken := exec_characterReceived (s := s.setPort p (u.receivingFrame taken)) hrun hhold
      (by rw [hport]; exact hbreak) (State.endedFrame_running (hrx taken) hmore) b false false
    rw [List.map_cons, List.cons_append, execAll, htaken, hport, hnext]
    exact ih (by rw [List.append_assoc]; exact hframe)

end receive

end ports

/-- Settles O9: the lead byte begins the frame, and the rest completes it. -/
theorem cleanFrameIsQueued : Obligations.CleanFrameIsQueued := by
  intro s p frame hrun hhold hrole hidle hempty hbreak hlow hhigh hlead hlen hcheck
  match frame with
  | [] => simp at hlow
  | b :: rest =>
    obtain rfl : b = 0xB4#8 := by simpa using hlead
    have hbegun : (s.port p).take 0xB4#8 false false = (s.port p).receivingFrame [0xB4#8] := by
      rw [PortUnit.take_lead hempty, hidle]
      rfl
    rw [List.map_cons, List.cons_append, execAll,
      exec_characterReceived hrun hhold hbreak (State.endedFrame_empty hempty), hbegun]
    have hrest := execAll_rest hrun hhold hrole hlow hhigh hlen hcheck (s.port p) hbreak
      (rest := rest) (taken := [0xB4#8]) rfl
    refine hrest.trans ?_
    have hport : { s.port p with rx := none, state := .queued, queued := 0xB4#8 :: rest }
        = ({ s.port p with state := .queued, queued := 0xB4#8 :: rest } : PortUnit) := by rw [← hempty]
    rw [hport]

end Sys2Proof.Machine
end

section
/-! The frames of the commands read back, and what is due on an empty queue. -/

namespace Sys2Proof.Machine

/-! ### Decoding what the encoder writes (R156, R157) -/

/-- Every well-formed command's frame fits the line. -/
theorem frame_fits (c : Instr) : Laws.FrameFits.Statement c := by
  cases c
  case writeStyle h w => exact Laws.FrameFits.writeStyle h w
  case writeMachine h w => exact Laws.FrameFits.writeMachine h w
  case unknownCommandCode h code reserved params => exact Laws.FrameFits.unknownCommandCode h code reserved params
  all_goals
    intro _ f hf
    cases hf
  all_goals exact Laws.FrameFits.of_params (by simp [FrameParts.listed])

/-- A frame is taken apart at its grant into the parts it was made of. -/
theorem decodeFrame_frame (f : FrameParts) : decodeFrame f.hdr.port f.frame
    = (decodeCommand f.hdr f.code f.reserved f.params).getD (.unknownCommandCode f.hdr f.code f.reserved f.params)
      := by
  have hparams (crc : Word) : (f.params ++ be16 crc).take ((f.params ++ be16 crc).length - 2) = f.params := by
    rw [List.length_append, be16_length, Nat.add_sub_cancel, List.take_left]
  simp only [FrameParts.frame, sealFrame, List.cons_append, List.nil_append, decodeFrame, hparams, flagsByte_hold,
    flagsByte_guard, flagsByte_reserved]

theorem decodeCommand_listed (h : Hdr) (k : CmdKind) (ps : List Byte) :
    decodeCommand h k.code 0 ps = decodeParams h k ps := by
  rw [decodeCommand, if_pos rfl, CmdKind.ofCode_code, Option.bind_some]

theorem decodeCurve_encode (x : Box) {ps : List RawPoint} (h : ps.length ≤ 13) :
    decodeCurve x (BitVec.ofNat 8 ps.length :: encodePoints ps) = some (.curve x ps) := by
  have hcount : ps.length = (BitVec.ofNat 8 ps.length).toNat := by
    rw [BitVec.toNat_ofNat, Nat.mod_eq_of_lt (by omega)]
  rw [decodeCurve, decodePoints_encodePoints, Option.bind_some, if_pos hcount]

theorem decodeStyleWrite_encode {w : StyleWrite} (hw : w.wellFormed = true) :
    decodeStyleWrite (encodeStyleWrite w) = some w := by
  cases w with
  | curve x ps =>
    have hlen : ps.length ≤ 13 := by simpa [StyleWrite.wellFormed] using hw
    cases x
    · exact decodeCurve_encode .a hlen
    · exact decodeCurve_encode .b hlen
  | other g bytes =>
    simp only [StyleWrite.wellFormed, Bool.and_eq_true, Bool.or_eq_true, decide_eq_true_eq] at hw
    have hg : g ≠ 1 ∧ g ≠ 2 ∧ g ≠ 3 ∧ g ≠ 4 ∧ g ≠ 5 ∧ g ≠ 6 ∧ g ≠ 7 := by
      have hgroup := hw.1
      refine ⟨?_, ?_, ?_, ?_, ?_, ?_, ?_⟩ <;> bv_omega
    obtain ⟨h1, h2, h3, h4, h5, h6, h7⟩ := hg
    unfold encodeStyleWrite decodeStyleWrite
    dsimp only
    rw [if_neg h1, if_neg h2, if_neg h3, if_neg h4, if_neg h5, if_neg h6,
      if_neg h7]
  | yarn | boxes | bands | drying | masks => simp [encodeStyleWrite, decodeStyleWrite, be16_eq]

theorem decodeGeometry_bytes (g : RawGeometry) : decodeGeometry g.bytes = some g := by
  simp [RawGeometry.bytes, RawZone.bytes, RawMainZone.bytes, be16_eq, decodeGeometry]

theorem decodeMachineWrite_encode {w : MachineWrite} (hw : w.wellFormed = true) :
    decodeMachineWrite (encodeMachineWrite w) = some w := by
  cases w with
  | geometry g =>
    unfold encodeMachineWrite decodeMachineWrite
    dsimp only
    rw [if_pos rfl, decodeGeometry_bytes, Option.map_some]
  | other g bytes =>
    simp only [MachineWrite.wellFormed, Bool.and_eq_true, decide_eq_true_eq] at hw
    have hg : g ≠ 0 ∧ g ≠ 1 ∧ g ≠ 2 ∧ g ≠ 3 ∧ g ≠ 4 := by
      have hgroup := hw.1
      refine ⟨?_, ?_, ?_, ?_, ?_⟩ <;> bv_omega
    obtain ⟨h0, h1, h2, h3, h4⟩ := hg
    unfold encodeMachineWrite decodeMachineWrite
    dsimp only
    rw [if_neg h0, if_neg h1, if_neg h2, if_neg h3, if_neg h4]
  | measurement | actuators | beam | ports => simp [encodeMachineWrite, decodeMachineWrite, be16_eq]

/-- The parameters of a well-formed command spell that command. -/
theorem decodeCommand_parts {c : Instr} {f : FrameParts} (hw : c.wellFormed = true) (hf : c.parts = some f) :
    (decodeCommand f.hdr f.code f.reserved f.params).getD (.unknownCommandCode f.hdr f.code f.reserved f.params)
      = c := by
  cases c
  case unknownCommandCode h code reserved params =>
    cases hf
    simp only [Instr.wellFormed, Bool.and_eq_true, Option.isNone_iff_eq_none] at hw
    rw [hw.2, Option.getD_none]
  case writeStyle h w =>
    cases hf
    rw [FrameParts.listed, decodeCommand_listed, decodeParams, decodeStyleWrite_encode hw]
    rfl
  case writeMachine h w =>
    cases hf
    rw [FrameParts.listed, decodeCommand_listed, decodeParams, decodeMachineWrite_encode hw]
    rfl
  all_goals cases hf
  all_goals
    rw [FrameParts.listed, decodeCommand_listed]
    simp [decodeParams, be16_eq, be32_eq]

/-- Settles O8: the shape of a sealed frame, and the decoding of its parts. -/
theorem decodeReadsWhatEncodeWrites : Obligations.DecodeReadsWhatEncodeWrites := by
  intro c f hw hf
  obtain ⟨hlow, hhigh⟩ := frame_fits c hw f hf
  have hframe : c.frame = f.frame := by rw [Instr.frame, hf]; rfl
  rw [hframe]
  refine ⟨hlow, hhigh, rfl, ?_, checkWordMatches_sealFrame _, ?_⟩
  · have hsecond : f.frame[1]? = some (BitVec.ofNat 8 (f.params.length + 7)) := rfl
    rw [hsecond, Option.map_some, FrameParts.frame_length, BitVec.toNat_ofNat,
      Nat.mod_eq_of_lt (by rw [FrameParts.frame_length] at hhigh; omega)]
  · rw [decodeFrame_frame, decodeCommand_parts hw hf]

/-! ### What is due (R155; log entries 3, 4, 11, 14) -/

/-- What the card looks at on an empty queue, in its order. -/
def State.dueList (s : State) : List (Option Instr) := [
    dueIf ((s.hold.map fun t => decide (Config.startUpHold ≤ t)).getD false) .startUpHoldEnd,
    s.dueFrame .p0, s.dueFrame .p1, s.dueFrame .p2, s.dueFrame .p3,
    s.dueGrant,
    dueIf ((s.line.standstill.map Timer.due).getD false) .standstillTimeout,
    dueIf ((s.monitor.interval.map fun t => decide (Config.standInterval ≤ t)).getD false) .intervalTimerExpiry,
    dueIf (decide (Config.rampInterval ≤ s.boxes.rampTimer)) .rampTimerExpiry,
    s.dueAge .a, s.dueAge .b,
    s.dueStep .a, s.dueStep .b,
    dueIf ((s.boxes.autoLift.map Timer.due).getD false) .autoLiftExpiry,
    dueIf (s.boxes.fieldReset == some 0) .fieldResetExpiry,
    dueIf (s.beams.cutJet == some 0) (.jetTimerExpiry .cut),
    dueIf (s.beams.faultJet == some 0) (.jetTimerExpiry .fault),
    dueIf ((s.arbiter.lockGap.map Timer.due).getD false) .lockGapExpiry,
    dueIf (decide (Config.sampleInterval ≤ s.monitor.sampleTimer)) (.gaugeSample (Config.loopCurrent s.freeCount)),
    dueIf ((s.nv.flight.map fun f => decide (Config.storeLimit ≤ f.elapsed)).getD false) .storeEnd]

theorem State.dueCommand_eq (s : State) : s.dueCommand = s.dueList.findSome? id := rfl

theorem dueIf_eq_some {c : Bool} {i j : Instr} : dueIf c i = some j ↔ c = true ∧ i = j := by
  cases c <;> simp [dueIf]

theorem getD_map_eq_true {α : Type} {o : Option α} {p : α → Bool} :
    (o.map p).getD false = true ↔ ∃ t, o = some t ∧ p t = true := by
  cases o <;> simp

section due
variable {s : State} {i : Instr}

theorem dueFrame_sound {p : Port} (h : s.dueFrame p = some i) : Due s i := by
  unfold State.dueFrame at h
  split at h
  · cases h
  · next f hf =>
    split at h
    · next hended =>
      split at h
      · next hidle =>
        split at h
        · next hclean => cases h; exact .frameComplete p f hf hended hidle hclean
        · next hclean => cases h; exact .frameInError p f hf hended hidle (by simpa using hclean)
      · next hidle => cases h; exact .frameOverlap p f hf hended (by simpa using hidle)
    · next hended =>
      obtain ⟨hgap, rfl⟩ := dueIf_eq_some.mp h
      exact .gapLimit p f hf (by simpa using hended) (of_decide_eq_true hgap)

theorem dueAge_sound {x : Box} (h : s.dueAge x = some i) : Due s i := by
  obtain ⟨ht, rfl⟩ := dueIf_eq_some.mp h
  obtain ⟨t, hage, hle⟩ := getD_map_eq_true.mp ht
  exact .age x t hage (of_decide_eq_true hle)

theorem dueStep_sound {x : Box} (h : s.dueStep x = some i) : Due s i := by
  obtain ⟨ht, rfl⟩ := dueIf_eq_some.mp h
  rw [Bool.and_eq_true] at ht
  exact .rollStep x ht.1 (of_decide_eq_true ht.2)

/-- What stands in the list is due. -/
theorem due_of_mem (h : some i ∈ s.dueList) : Due s i := by
  simp only [State.dueList, List.mem_cons, List.not_mem_nil, or_false] at h
  rcases h with h | h | h | h | h | h | h | h | h | h | h | h | h | h | h | h | h | h | h | h
  all_goals replace h := h.symm
  · obtain ⟨ht, rfl⟩ := dueIf_eq_some.mp h
    obtain ⟨t, hhold, hle⟩ := getD_map_eq_true.mp ht
    exact .holdEnd t hhold (of_decide_eq_true hle)
  · exact dueFrame_sound h
  · exact dueFrame_sound h
  · exact dueFrame_sound h
  · exact dueFrame_sound h
  · obtain ⟨p, hp, rfl⟩ := Option.map_eq_some_iff.mp h
    exact .grant p hp
  · obtain ⟨ht, rfl⟩ := dueIf_eq_some.mp h
    obtain ⟨t, hrun, hle⟩ := getD_map_eq_true.mp ht
    exact .standstill t hrun (of_decide_eq_true hle)
  · obtain ⟨ht, rfl⟩ := dueIf_eq_some.mp h
    obtain ⟨t, hrun, hle⟩ := getD_map_eq_true.mp ht
    exact .interval t hrun (of_decide_eq_true hle)
  · obtain ⟨ht, rfl⟩ := dueIf_eq_some.mp h
    exact .ramp (of_decide_eq_true ht)
  · exact dueAge_sound h
  · exact dueAge_sound h
  · exact dueStep_sound h
  · exact dueStep_sound h
  · obtain ⟨ht, rfl⟩ := dueIf_eq_some.mp h
    obtain ⟨t, hrun, hle⟩ := getD_map_eq_true.mp ht
    exact .autoLift t hrun (of_decide_eq_true hle)
  · obtain ⟨ht, rfl⟩ := dueIf_eq_some.mp h
    exact .fieldReset (beq_iff_eq.mp ht)
  · obtain ⟨ht, rfl⟩ := dueIf_eq_some.mp h
    exact .cutJet (beq_iff_eq.mp ht)
  · obtain ⟨ht, rfl⟩ := dueIf_eq_some.mp h
    exact .faultJet (beq_iff_eq.mp ht)
  · obtain ⟨ht, rfl⟩ := dueIf_eq_some.mp h
    obtain ⟨t, hrun, hle⟩ := getD_map_eq_true.mp ht
    exact .lockGap t hrun (of_decide_eq_true hle)
  · obtain ⟨ht, rfl⟩ := dueIf_eq_some.mp h
    exact .sample (of_decide_eq_true ht)
  · obtain ⟨ht, rfl⟩ := dueIf_eq_some.mp h
    obtain ⟨f, hf, hle⟩ := getD_map_eq_true.mp ht
    exact .storeEnd f hf (of_decide_eq_true hle)

theorem mem_dueList_frame {p : Port} (h : s.dueFrame p = some i) : some i ∈ s.dueList := by
  rw [← h]
  cases p <;> simp [State.dueList]

theorem mem_dueList_box {f : Box → Option Instr} (hf : f = s.dueAge ∨ f = s.dueStep) {x : Box} (h : f x = some i) :
    some i ∈ s.dueList := by
  rw [← h]
  rcases hf with rfl | rfl <;> cases x <;> simp [State.dueList]

/-- What is due stands in the list. -/
theorem mem_of_due (h : Due s i) : some i ∈ s.dueList := by
  have hif {c : Bool} {j : Instr} (hc : c = true) (hmem : dueIf c j ∈ s.dueList) : some j ∈ s.dueList := by
    rwa [dueIf, if_pos hc] at hmem
  have hrun {α : Type} {o : Option α} {p : α → Bool} {t : α} (ho : o = some t) (hp : p t = true) :
      (o.map p).getD false = true := getD_map_eq_true.mpr ⟨t, ho, hp⟩
  cases h with
  | holdEnd t ht hle =>
    exact hif (hrun (p := fun t => decide (Config.startUpHold ≤ t)) ht (decide_eq_true hle))
      (by simp [State.dueList])
  | frameComplete p f hf he hi hc => exact mem_dueList_frame (p := p) (by simp [State.dueFrame, hf, he, hi, hc])
  | frameInError p f hf he hi hc => exact mem_dueList_frame (p := p) (by simp [State.dueFrame, hf, he, hi, hc])
  | frameOverlap p f hf he hi => exact mem_dueList_frame (p := p) (by simp [State.dueFrame, hf, he, hi])
  | gapLimit p f hf he hg =>
    refine mem_dueList_frame (p := p) ?_
    simp only [State.dueFrame, hf, he]
    exact dueIf_eq_some.mpr ⟨decide_eq_true hg, rfl⟩
  | grant p hp =>
    have hgrant : s.dueGrant = some (decodeFrame p (s.port p).queued) := by rw [State.dueGrant, hp, Option.map_some]
    rw [← hgrant]
    simp [State.dueList]
  | standstill t ht hle => exact hif (hrun (p := Timer.due) ht (decide_eq_true hle)) (by simp [State.dueList])
  | interval t ht hle =>
    exact hif (hrun (p := fun t => decide (Config.standInterval ≤ t)) ht (decide_eq_true hle))
      (by simp [State.dueList])
  | ramp hle =>
    exact hif (decide_eq_true (p := Config.rampInterval ≤ s.boxes.rampTimer) hle)
      (by simp [State.dueList])
  | age x t ht hle =>
    exact mem_dueList_box (.inl rfl) (x := x) (dueIf_eq_some.mpr ⟨hrun ht (decide_eq_true hle), rfl⟩)
  | rollStep x hm hle =>
    exact mem_dueList_box (.inr rfl) (x := x) (dueIf_eq_some.mpr
      ⟨by rw [Bool.and_eq_true]; exact ⟨hm, decide_eq_true hle⟩, rfl⟩)
  | autoLift t ht hle => exact hif (hrun (p := Timer.due) ht (decide_eq_true hle)) (by simp [State.dueList])
  | fieldReset h => exact hif (beq_iff_eq.mpr h) (by simp [State.dueList])
  | cutJet h => exact hif (beq_iff_eq.mpr h) (by simp [State.dueList])
  | faultJet h => exact hif (beq_iff_eq.mpr h) (by simp [State.dueList])
  | lockGap t ht hle => exact hif (hrun (p := Timer.due) ht (decide_eq_true hle)) (by simp [State.dueList])
  | sample hle =>
    exact hif (decide_eq_true (p := Config.sampleInterval ≤ s.monitor.sampleTimer) hle) (by simp [State.dueList])
  | storeEnd f hf hle =>
    exact hif (hrun (p := fun f => decide (Config.storeLimit ≤ f.elapsed)) hf (decide_eq_true hle))
      (by simp [State.dueList])

theorem due_of_dueCommand (h : s.dueCommand = some i) : Due s i := by
  rw [State.dueCommand_eq] at h
  obtain ⟨o, ho, rfl⟩ := List.exists_of_findSome?_eq_some h
  exact due_of_mem ho

theorem dueCommand_of_due (h : Due s i) : ∃ j, s.dueCommand = some j := by
  rw [State.dueCommand_eq]
  refine Option.isSome_iff_exists.mp ?_
  rw [List.findSome?_isSome_iff]
  exact ⟨some i, mem_of_due h, rfl⟩

theorem idle_running (h : s.power = .running) : idle s =
    match s.dueCommand with
    | some i => exec i s.drawFree
    | none => .next s.tick := by
  unfold idle
  rw [h] <;> rfl

end due

/-- Settles O2: what is run is the first of what is due, and where nothing is the microsecond is the whole step. -/
theorem idleStepRunsWhatIsDueOrTicks : Obligations.IdleStepRunsWhatIsDueOrTicks := by
  intro s hempty
  have hstep : step s = idle s := by rw [step, hempty]
  refine ⟨fun hheld => ?_, fun hrun i hi => ?_, fun i => due_of_dueCommand, fun i hi => ?_, fun hrun hnone => ?_⟩
  · rw [hstep, idle, hheld]
  · rw [hstep, idle_running hrun, hi]
    rfl
  · obtain ⟨j, hj⟩ := dueCommand_of_due hi
    refine ⟨by rw [hj]; rfl, fun honly => ?_⟩
    rw [hj, honly j (due_of_dueCommand hj)]
  · intro run age turn
    rw [hstep, idle_running hrun, hnone]
    rfl

end Sys2Proof.Machine
end

section
/-! Events that need no more than their own definitions: liquor pulses and the age of a report, feed pulses and the
standstill timeout; and the nonvolatile store. -/

namespace Sys2Proof.Machine

section single
variable {s : State} {x : Box}

/-! ### Liquor pulses and the age of a report (R44, R47) -/

theorem liquorPulse_eq (hlane : s.laneExists x = true) (hmax : (s.segment x).pulses ≤ 65535) :
    liquorPulse x s = s.setSegment x { s.segment x with pulses := min ((s.segment x).pulses + 1) 65535 } := by
  have hcount : (if (s.segment x).pulses < Config.maxWord then (s.segment x).pulses + 1 else (s.segment x).pulses)
      = min ((s.segment x).pulses + 1) 65535 := by
    have hword : Config.maxWord = 65535 := rfl
    split <;> omega
  rw [liquorPulse, if_pos hlane, hcount]

theorem State.makeStale_eq (s : State) (x : Box) : s.makeStale x =
    { s.setReport x { s.report x with state := .stale, age := none } with
      ports := if s.laneExists x then
          s.ports.map fun u => { u with events := u.events ||| Flag.inputFault.set }
        else s.ports } := by
  unfold State.makeStale State.postIf
  cases s.laneExists x <;> rfl

/-- Settles O28: the count saturates at the end of 16 bits; the age expiry is `makeStale` in FRESH alone. -/
theorem liquorPulseCountsAndAgeExpiryMakesStale : Obligations.LiquorPulseCountsAndAgeExpiryMakesStale := by
  refine ⟨fun x s hrun => ⟨fun hlane => ?_, fun hlane hmax => ?_⟩, fun x s hrun => ⟨fun hold => ?_, fun hfresh => ?_⟩⟩ <;>
    refine congrArg Host.Outcome.next ((whenRunning_running hrun _).trans ?_)
  · rw [liquorPulse, if_neg (by simp [hlane])]
  · exact liquorPulse_eq hlane hmax
  · exact if_neg hold
  · exact (if_pos hfresh).trans (s.makeStale_eq x)

/-! ### Feed pulses and the standstill timeout (R1, R7) -/

theorem State.beamAnnounce_stopped (s : State) : s.beamAnnounce .stopped = { s with
    beams := { s.beams with current := s.beams.current.map fun o =>
      { o with record := { o.record with stops := min (o.record.stops + 1) 65535 } } } } := by
  cases h : s.beams.current <;> simp only [State.beamAnnounce, h]
  · exact congrArg (fun o => { s with beams := { s.beams with current := o } }) h
  · rfl

/-- The standstill timeout in motion: the unit's own items and the three announcements of STOPPED (R7, R8). -/
theorem standstillTimeout_moving (hmove : s.line.lineState ≠ .stopped) : standstillTimeout s = { s with
    line := { s.line with
      speed := 0, lineState := .stopped, periods := [], lastCapture := none, standstill := none }
    monitor := { s.monitor with interval := some 0 }
    boxes := { s.boxes with autoLift :=
      if 0 < s.actuators.autoLiftDelay then some ⟨0, s.actuators.autoLiftDelay * 1000000⟩ else none }
    beams := { s.beams with current := s.beams.current.map fun o =>
      { o with record := { o.record with stops := min (o.record.stops + 1) 65535 } } } } := by
  rw [standstillTimeout, if_neg hmove, State.changeLineState, if_neg (Ne.symm hmove)]
  refine (State.beamAnnounce_stopped _).trans ?_
  rw [State.monitorAnnounce, if_neg (by simp)]
  rfl

/-- Settles O20: the feed count by division with remainder, and the stop with its announcements. -/
theorem feedPulseCountsAndStandstillStops : Obligations.FeedPulseCountsAndStandstillStops := by
  refine ⟨fun s hrun => ?_, fun s hrun => ⟨fun hmove => ?_, fun hstop => ?_⟩⟩
  · exact ⟨feedPulse s, congrArg Host.Outcome.next (whenRunning_running hrun _), Nat.mod_lt _ (by decide),
      Nat.mod_add_div _ _, rfl, rfl⟩
  · exact congrArg Host.Outcome.next ((whenRunning_running hrun _).trans (standstillTimeout_moving hmove))
  · exact congrArg Host.Outcome.next ((whenRunning_running hrun _).trans (if_pos hstop))

/-! ### The nonvolatile store (R152, R153) -/

theorem Bank.good_eq (b : Bank) : b.good = true ↔ b.check = some (Config.bankCheckWord b.content) := beq_iff_eq

theorem permitted_storeSettings (r : Role) : permitted r .storeSettings = true ↔ r = .station := by
  cases r <;> decide

/-- The working settings on their way into a bank, the port that asked noted. -/
def State.storeInto (s : State) (p : Port) (target : BankId × Long) : State :=
  { s with nv := { s.nv.setBank target.1 (BankCopy.mk s.settings target.2).unsealed with
      flight := some ⟨⟨s.settings, target.2⟩, target.1, p, 0⟩ } }

theorem exec_storeSettings_busy {h : Hdr} (ha : s.admits h .storeSettings) (hbusy : s.nv.flight.isSome = true) :
    exec (.storeSettings h) s = .next (s.replied h .busy []) :=
  run_plain ha (if_pos hbusy)

theorem exec_storeSettings_idle {h : Hdr} (ha : s.admits h .storeSettings) (hidle : s.nv.flight = none) :
    exec (.storeSettings h) s = .next ((s.storeInto h.port s.nv.nextStore).replied h .ok []) :=
  run_done ha (if_neg (by rw [State.storeBusy, State.grant_nv, hidle]; decide))

theorem NvStore.nextStore_none {n : NvStore} (h1 : n.bank1.good = false) (h2 : n.bank2.good = false) :
    n.nextStore = (.bank1, 1) := by simp only [nextStore, lastGood, h1, h2]

theorem NvStore.nextStore_first {n : NvStore} (h1 : n.bank1.good = true) (h2 : n.bank2.good = false) :
    n.nextStore = (.bank2, n.bank1.content.generation + 1) := by simp only [nextStore, lastGood, h1, h2]

theorem NvStore.nextStore_second {n : NvStore} (h1 : n.bank1.good = false) (h2 : n.bank2.good = true) :
    n.nextStore = (.bank1, n.bank2.content.generation + 1) := by simp only [nextStore, lastGood, h1, h2]

theorem NvStore.nextStore_both {n : NvStore} (h1 : n.bank1.good = true) (h2 : n.bank2.good = true) :
    n.nextStore = if n.bank2.content.generation = n.bank1.content.generation + 1
      then (.bank1, n.bank2.content.generation + 1) else (.bank2, n.bank1.content.generation + 1) := by
  simp only [nextStore, lastGood, h1, h2]
  split <;> rename_i h <;> split at h <;> simp_all

theorem storeEnd_flight {f : StoreFlight} (hf : s.nv.flight = some f) : storeEnd s = { s with
    nv := match f.bank with
      | .bank1 => ⟨⟨f.copy, some (Config.bankCheckWord f.copy)⟩, s.nv.bank2, none⟩
      | .bank2 => ⟨s.nv.bank1, ⟨f.copy, some (Config.bankCheckWord f.copy)⟩, none⟩
    ports := s.ports.set f.port { s.port f.port with
      events := (s.port f.port).events ||| Flag.storeDone.set } } := by
  rw [storeEnd, hf]
  obtain ⟨copy, bank, port, elapsed⟩ := f
  cases bank <;> rfl

/-- Settles O53: the bank and the count of the next store by which banks are good, the end of a store as a whole next
state, and its stop by `NvStore.stopStore_spec`. -/
theorem storeWritesTheOtherBank : Obligations.StoreWritesTheOtherBank := by
  refine ⟨Bank.good_eq, permitted_storeSettings, fun h s ha => ⟨exec_storeSettings_busy ha, fun hidle => ?_⟩,
    fun s hrun => ⟨fun hidle => ?_, fun f hf => ?_, retentionMarkWrite s, ?_, rfl, ?_⟩⟩
  · rw [exec_storeSettings_idle ha hidle]
    refine ⟨fun h1 h2 => ?_, fun h1 h2 => ?_, fun h1 h2 => ?_, fun h1 h2 => ?_⟩
    · rw [NvStore.nextStore_none h1 h2]; rfl
    · rw [NvStore.nextStore_first h1 h2]; rfl
    · rw [NvStore.nextStore_second h1 h2]; rfl
    · rw [NvStore.nextStore_both h1 h2]
      split <;> rfl
  · refine congrArg Host.Outcome.next ((whenRunning_running hrun _).trans ?_)
    simp only [storeEnd, hidle]
  · exact congrArg Host.Outcome.next ((whenRunning_running hrun _).trans (storeEnd_flight hf))
  · exact congrArg Host.Outcome.next (whenRunning_running hrun _)
  · exact s.nv.stopStore_spec s.freeCount

end single

end Sys2Proof.Machine
end

section
/-! From footprints to whole next states: a state that a command reaches is the one before it with the written parts
taken from it. And what one box is left of a command on the other. -/

namespace Sys2Proof.Machine

/-! ### A whole state from its footprint -/

/-- Parts of which one at least is in a list of written parts. -/
def anyWritten (ps qs : List Part) : Bool := qs.any (· ∈ ps)

/-- The first state with the written parts taken from the second. -/
def State.written (ps : List Part) (s t : State) : State where
  pending := s.pending
  freeCount := if anyWritten ps [.supply] then t.freeCount else s.freeCount
  power := if anyWritten ps [.supply] then t.power else s.power
  startKind := if anyWritten ps [.supply] then t.startKind else s.startKind
  hold := if anyWritten ps [.supply] then t.hold else s.hold
  mark := if anyWritten ps [.supply] then t.mark else s.mark
  line := if anyWritten ps [.line] then t.line else s.line
  path := {
    lanes := if anyWritten ps [.slots] then t.path.lanes else s.path.lanes
    main := if anyWritten ps [.slots] then t.path.main else s.path.main
    segments := if anyWritten ps [.pulses, .causes] then t.path.segments else s.path.segments
    sequence := if anyWritten ps [.sequence] then t.path.sequence else s.path.sequence }
  addOn := {
    windows := if anyWritten ps [.windows] then t.addOn.windows else s.addOn.windows
    reports := if anyWritten ps [.reports] then t.addOn.reports else s.addOn.reports }
  monitor := {
    interval := if anyWritten ps [.interval] then t.monitor.interval else s.monitor.interval
    soak := if anyWritten ps [.soak] then t.monitor.soak else s.monitor.soak
    zones := if anyWritten ps [.zones] then t.monitor.zones else s.monitor.zones
    gauge := if anyWritten ps [.gauge] then t.monitor.gauge else s.monitor.gauge
    regain := if anyWritten ps [.gauge] then t.monitor.regain else s.monitor.regain
    sampleTimer := if anyWritten ps [.gauge] then t.monitor.sampleTimer else s.monitor.sampleTimer }
  boxes := {
    pressure := if anyWritten ps [.pressure] then t.boxes.pressure else s.boxes.pressure
    rampTimer := if anyWritten ps [.pressure] then t.boxes.rampTimer else s.boxes.rampTimer
    rolls := if anyWritten ps [.rolls] then t.boxes.rolls else s.boxes.rolls
    autoLift := if anyWritten ps [.autoLift] then t.boxes.autoLift else s.boxes.autoLift
    fieldReset := if anyWritten ps [.fieldReset] then t.boxes.fieldReset else s.boxes.fieldReset
    homeSwitch := if anyWritten ps [.homeSwitch] then t.boxes.homeSwitch else s.boxes.homeSwitch }
  beams := {
    current := if anyWritten ps [.beam] then t.beams.current else s.beams.current
    cutJet := if anyWritten ps [.jets] then t.beams.cutJet else s.beams.cutJet
    faultJet := if anyWritten ps [.jets] then t.beams.faultJet else s.beams.faultJet
    plan := if anyWritten ps [.beamLists] then t.beams.plan else s.beams.plan
    store := if anyWritten ps [.beamLists] then t.beams.store else s.beams.store }
  settings := {
    machine := if anyWritten ps [.machine] then t.settings.machine else s.settings.machine
    styles := if anyWritten ps [.styles] then t.settings.styles else s.settings.styles
    active := if anyWritten ps [.active] then t.settings.active else s.settings.active
    roles := if anyWritten ps [.roles] then t.settings.roles else s.settings.roles }
  pendingStyle := if anyWritten ps [.pendingStyle] then t.pendingStyle else s.pendingStyle
  nv := if anyWritten ps [.nv] then t.nv else s.nv
  ports := if anyWritten ps [.events, .masks, .snapshots, .selections, .stages] then t.ports else s.ports
  arbiter := if anyWritten ps [.arbiter] then t.arbiter else s.arbiter

/-- A value is the one written where one of its parts is, and the old one where none is. -/
theorem eq_ite_written {α : Type} {ps : List Part} {new old : α} (qs : List Part)
    (h : (∀ q ∈ qs, q ∉ ps) → new = old) : new = if anyWritten ps qs then new else old := by
  cases hany : anyWritten ps qs with
  | true => rfl
  | false => exact h fun q hq => by simpa using List.any_eq_false.mp hany q hq

theorem PortUnit.ext_fields {u v : PortUnit}
    (hstage : v.state = u.state ∧ v.rx = u.rx ∧ v.queued = u.queued ∧ v.inBreak = u.inBreak ∧ v.reply = u.reply)
    (hmask : v.mask = u.mask ∧ v.keep = u.keep) (hsnap : v.snapshot = u.snapshot) (hselected : v.selected = u.selected) :
    v = { u with events := v.events } := by
  obtain ⟨hstate, hrx, hqueued, hbreak, hreply⟩ := hstage
  cases u
  cases v
  simp_all

namespace Frame
variable {ps : List Part} {s t : State}

/-- A command that writes of the ports no more than the event sets. -/
theorem eventsOnly (h : Frame ps s t) (ha : apart [.masks, .snapshots, .selections, .stages] ps = true) :
    s.eventsOnly t := by
  have hsame (part : Part) (hp : part ∈ [Part.masks, .snapshots, .selections, .stages]) : part.same s t :=
    h.2 part (by simpa using List.all_eq_true.mp ha part hp)
  exact fun p => PortUnit.ext_fields (hsame .stages (by decide) p) (hsame .masks (by decide) p)
    (hsame .snapshots (by decide) p) (hsame .selections (by decide) p)

theorem ports_eq (h : Frame ps s t)
    (hn : ∀ q ∈ [Part.events, .masks, .snapshots, .selections, .stages], q ∉ ps) : t.ports = s.ports := by
  refine PerPort.ext_get fun p => ?_
  have hport := PortUnit.ext_fields (h.2 .stages (hn _ (by decide)) p) (h.2 .masks (hn _ (by decide)) p)
    (h.2 .snapshots (hn _ (by decide)) p) (h.2 .selections (hn _ (by decide)) p)
  have hevents : (t.port p).events = (s.port p).events := h.2 .events (hn _ (by decide)) p
  rw [hevents] at hport
  exact hport

theorem segments_eq (h : Frame ps s t) (hn : ∀ q ∈ [Part.pulses, .causes], q ∉ ps) :
    t.path.segments = s.path.segments := by
  refine PerBox.ext_get fun x => ?_
  have hpulses : (t.segment x).pulses = (s.segment x).pulses := h.2 .pulses (hn _ (by decide)) x
  have hcauses : (t.segment x).causes = (s.segment x).causes := h.2 .causes (hn _ (by decide)) x
  exact congrArg₂ OpenSegment.mk hpulses hcauses

/-- The state reached is the one before it with the written parts taken from the state reached. -/
theorem whole (h : Frame ps s t) : t = s.written ps t := by
  have hat {q : Part} {qs : List Part} (hq : q ∈ qs) (hn : ∀ q ∈ qs, q ∉ ps) : q.same s t := h.2 q (hn q hq)
  have hsupply (hn : ∀ q ∈ [Part.supply], q ∉ ps) := hat (.head _) hn
  have hslots (hn : ∀ q ∈ [Part.slots], q ∉ ps) := hat (.head _) hn
  have hgauge (hn : ∀ q ∈ [Part.gauge], q ∉ ps) := hat (.head _) hn
  have hpressure (hn : ∀ q ∈ [Part.pressure], q ∉ ps) := hat (.head _) hn
  have hjets (hn : ∀ q ∈ [Part.jets], q ∉ ps) := hat (.head _) hn
  have hlists (hn : ∀ q ∈ [Part.beamLists], q ∉ ps) := hat (.head _) hn
  unfold State.written
  rw [← h.1, ← eq_ite_written _ fun hn => (hsupply hn).1, ← eq_ite_written _ fun hn => (hsupply hn).2.1,
    ← eq_ite_written _ fun hn => (hsupply hn).2.2.1, ← eq_ite_written _ fun hn => (hsupply hn).2.2.2.1,
    ← eq_ite_written _ fun hn => (hsupply hn).2.2.2.2, ← eq_ite_written [.line] (hat (.head _)),
    ← eq_ite_written _ fun hn => (hslots hn).1, ← eq_ite_written _ fun hn => (hslots hn).2,
    ← eq_ite_written _ h.segments_eq, ← eq_ite_written [.sequence] (hat (.head _)),
    ← eq_ite_written [.windows] (hat (.head _)), ← eq_ite_written [.reports] (hat (.head _)),
    ← eq_ite_written [.interval] (hat (.head _)), ← eq_ite_written [.soak] (hat (.head _)),
    ← eq_ite_written [.zones] (hat (.head _)), ← eq_ite_written _ fun hn => (hgauge hn).1,
    ← eq_ite_written _ fun hn => (hgauge hn).2.1, ← eq_ite_written _ fun hn => (hgauge hn).2.2,
    ← eq_ite_written _ fun hn => (hpressure hn).1, ← eq_ite_written _ fun hn => (hpressure hn).2,
    ← eq_ite_written [.rolls] (hat (.head _)), ← eq_ite_written [.autoLift] (hat (.head _)),
    ← eq_ite_written [.fieldReset] (hat (.head _)), ← eq_ite_written [.homeSwitch] (hat (.head _)),
    ← eq_ite_written [.beam] (hat (.head _)), ← eq_ite_written _ fun hn => (hjets hn).1,
    ← eq_ite_written _ fun hn => (hjets hn).2, ← eq_ite_written _ fun hn => (hlists hn).1,
    ← eq_ite_written _ fun hn => (hlists hn).2, ← eq_ite_written [.machine] (hat (.head _)),
    ← eq_ite_written [.styles] (hat (.head _)), ← eq_ite_written [.active] (hat (.head _)),
    ← eq_ite_written [.roles] (hat (.head _)), ← eq_ite_written [.pendingStyle] (hat (.head _)),
    ← eq_ite_written [.nv] (hat (.head _)), ← eq_ite_written _ h.ports_eq, ← eq_ite_written [.arbiter] (hat (.head _))]

end Frame

end Sys2Proof.Machine
end

section
/-! The rolls: steps, homes and their ends. -/

namespace Sys2Proof.Machine

theorem PerBox.eq_set {α : Type} {old new : PerBox α} {x : Box} (h : ∀ y, y ≠ x → new.get y = old.get y) :
    new = old.set x (new.get x) := by
  refine PerBox.ext_get fun y => ?_
  by_cases hy : y = x
  · rw [hy, PerBox.get_set_same]
  · rw [PerBox.get_set_ne _ _ hy, h y hy]

/-! ### What one box keeps of a command on the other -/

/-- Two states that agree in a box's roll, soak channel and open segment. -/
structure sameBox (s t : State) (x : Box) : Prop where
  roll : t.roll x = s.roll x
  soak : t.soak x = s.soak x
  segment : t.segment x = s.segment x

namespace sameBox
variable {s t u : State} {x y : Box}

theorem refl (s : State) (x : Box) : sameBox s s x := ⟨rfl, rfl, rfl⟩

theorem trans (h : sameBox s t x) (h' : sameBox t u x) : sameBox s u x :=
  ⟨h'.roll.trans h.roll, h'.soak.trans h.soak, h'.segment.trans h.segment⟩

theorem of_frame {ws : List Part} (h : Frame ws s t) (ha : apart [.rolls, .soak, .pulses, .causes] ws = true)
    (x : Box) : sameBox s t x := by
  have hat (part : Part) (hp : part ∈ [Part.rolls, .soak, .pulses, .causes]) : part.same s t :=
    h.2 part (by simpa using List.all_eq_true.mp ha part hp)
  have hrolls : t.boxes.rolls = s.boxes.rolls := hat .rolls (by decide)
  have hsoak : t.monitor.soak = s.monitor.soak := hat .soak (by decide)
  exact ⟨congrArg (PerBox.get · x) hrolls, congrArg (PerBox.get · x) hsoak,
    congrArg₂ OpenSegment.mk (hat .pulses (by decide) x) (hat .causes (by decide) x)⟩

theorem setRoll (s : State) (r : RollChannel) (h : y ≠ x) : sameBox s (s.setRoll x r) y :=
  ⟨State.roll_setRoll_ne s r h, rfl, rfl⟩

theorem settleDepth (s : State) (h : y ≠ x) : sameBox s (s.settleDepth x) y := by
  refine ⟨(settleDepth_other s h).roll, ?_, ?_⟩ <;> rw [State.settleDepth_eq s x _ rfl]
  · rw [State.setSegment_soak, State.soak_setSoak_ne _ _ h, State.setRoll_soak]
  · rw [State.segment_setSegment_ne _ _ h, State.setSoak_segment, State.setRoll_segment]

theorem complete (s : State) (c : Completion) (h : y ≠ x) : sameBox s (s.complete x c) y :=
  (setRoll s _ h).trans (of_frame (frame_postTo _ c.port _) (by decide) y)

theorem moveStep (s : State) (target : Nat) (onward : RollState) (h : y ≠ x) :
    sameBox s (s.moveStep x target onward) y :=
  (setRoll s _ h).trans (settleDepth _ h)

theorem homeDone (s : State) (f : Flight) (h : y ≠ x) : sameBox s (s.homeDone x f) y :=
  ((setRoll s _ h).trans (settleDepth _ h)).trans (complete _ _ h)

theorem rollStep (s : State) (h : y ≠ x) : sameBox s (rollStep x s) y := by
  unfold Machine.rollStep
  dsimp only
  split
  · exact refl s y
  · exact refl s y
  · split
    · exact (moveStep s _ _ h).trans (complete _ _ h)
    · exact moveStep s _ _ h
  · split
    · exact (((setRoll s _ h).trans (settleDepth _ h)).trans (complete _ _ h)).trans
        (of_frame (frame_post _ _) (by decide) y)
    · exact (setRoll s _ h).trans (settleDepth _ h)
  · exact moveStep s _ _ h
  · exact moveStep s _ _ h

/-- A command of one box writes of both boxes' channels that box's own. -/
theorem sets (h : ∀ y, y ≠ x → sameBox s t y) : t.boxes.rolls = s.boxes.rolls.set x (t.roll x)
    ∧ t.monitor.soak = s.monitor.soak.set x (t.soak x) ∧ t.path.segments = s.path.segments.set x (t.segment x) :=
  ⟨PerBox.eq_set fun y hy => (h y hy).roll, PerBox.eq_set fun y hy => (h y hy).soak,
    PerBox.eq_set fun y hy => (h y hy).segment⟩

end sameBox

/-! ### The depth condition evaluated anew -/

section follows
variable {s t u : State} {x : Box}

theorem depthFollows_settleDepth (hdepth : (u.roll x).depth = (s.roll x).depth) (hsoak : u.soak x = s.soak x)
    (hseg : u.segment x = s.segment x) : s.depthFollows (u.settleDepth x) x := by
  have hroll := settleDepth_roll u x
  have hnew : ((u.settleDepth x).roll x).depth = depthOf (u.roll x).state (u.roll x).position (u.dip x) := by rw [hroll]
  refine ⟨?_, ?_, ?_⟩
  · rw [settleDepth_dip, hroll]
  all_goals
    rw [hnew, ← hdepth, ← hsoak, ← hseg]
    intro hd
    rw [State.settleDepth_eq u x _ rfl]
    simp [hd]

/-- A roll written with its depth condition kept, and the condition then evaluated anew. -/
theorem depthFollows_setRoll (s : State) (x : Box) {r : RollChannel} (h : r.depth = (s.roll x).depth) :
    s.depthFollows ((s.setRoll x r).settleDepth x) x :=
  depthFollows_settleDepth (by rw [State.roll_setRoll_same, h]) rfl rfl

/-- Whether a box is in use is read from the settings alone. -/
theorem inUse_of_settings {t' : State} (h : t'.settings = t.settings) : t'.inUse x = t.inUse x := by
  cases x
  · exact congrArg (fun g : Settings => ({ t with settings := g } : State).inUse .a) h
  · exact congrArg (fun g : Settings => ({ t with settings := g } : State).inUse .b) h

/-- The evaluation stands while the box and the settings it reads are kept. -/
theorem depthFollows_of_kept {t' : State} (h : s.depthFollows t x)
    (hroll : (t'.roll x).state = (t.roll x).state ∧ (t'.roll x).position = (t.roll x).position
      ∧ (t'.roll x).depth = (t.roll x).depth)
    (hsoak : t'.soak x = t.soak x) (hseg : t'.segment x = t.segment x) (hsettings : t'.settings = t.settings) :
    s.depthFollows t' x := by
  obtain ⟨hstate, hposition, hdepth⟩ := hroll
  unfold State.depthFollows at *
  have hdip : t'.dip x = t.dip x := by rw [State.dip, State.style, hsettings]; rfl
  have huse : t'.inUse x = t.inUse x := inUse_of_settings hsettings
  rw [hstate, hposition, hdepth, hsoak, hseg, hdip, huse]
  exact h

theorem sameBox.depthFollows {t' : State} (hbox : sameBox t t' x) (hsettings : t'.settings = t.settings)
    (h : s.depthFollows t x) : s.depthFollows t' x :=
  depthFollows_of_kept h ⟨by rw [hbox.roll], by rw [hbox.roll], by rw [hbox.roll]⟩ hbox.soak hbox.segment hsettings

theorem complete_roll (s : State) (x : Box) (c : Completion) :
    (s.complete x c).roll x = { s.roll x with slot := some c } := by
  rw [State.complete, State.postTo_roll, State.roll_setRoll_same]

theorem depthFollows_complete (h : s.depthFollows t x) (c : Completion) : s.depthFollows (t.complete x c) x :=
  depthFollows_of_kept h (by rw [complete_roll]; exact ⟨rfl, rfl, rfl⟩) rfl rfl rfl

theorem depthFollows_post (h : s.depthFollows t x) (f : Flag) : s.depthFollows (t.post f) x := h

end follows

/-! ### Flags posted with a roll's work -/

section flags
variable {s : State} {x : Box} {p : Port} {i : Nat}

theorem Flag.set_getLsbD (f : Flag) (i : Nat) : f.set.getLsbD i = true ↔ i = f.bit := by
  have h := flagIf_getLsbD true f i
  rwa [flagIf, if_pos rfl, and_iff_left rfl] at h

theorem post_events (s : State) (f : Flag) (p : Port) (i : Nat) : ((s.post f).port p).events.getLsbD i = true
    ↔ (s.port p).events.getLsbD i = true ∨ i = f.bit := by
  rw [State.post_port, PortUnit.withEvent, BitVec.getLsbD_or, Bool.or_eq_true, Flag.set_getLsbD]

theorem complete_events (s : State) (x : Box) (c : Completion) (p : Port) (i : Nat) :
    ((s.complete x c).port p).events.getLsbD i = true
      ↔ (s.port p).events.getLsbD i = true ∨ (p = c.port ∧ i = (doneFlag x).bit) := by
  rw [State.complete_eq]
  by_cases hp : p = c.port
  · subst hp
    simp [State.port, Flag.set_getLsbD]
  · simp [State.port, PerPort.get_set_ne _ _ hp, hp]

theorem complete_ports (s : State) (x : Box) (c : Completion) : (s.complete x c).ports =
    s.ports.set c.port { s.port c.port with events := (s.port c.port).events ||| (doneFlag x).set } := rfl

theorem settleDepth_ports (s : State) (x : Box) : (s.settleDepth x).ports = s.ports := by
  rw [State.settleDepth_eq s x _ rfl]
  rfl

end flags

/-! ### A step event (R88, R92, R94, R98) -/

section steps
variable {s : State} {x : Box}

theorem moveStep_roll (s : State) (x : Box) (target : Nat) (onward : RollState) :
    (s.moveStep x target onward).roll x = { (s.roll x).stepped target onward with
      depth := depthOf ((s.roll x).stepped target onward).state ((s.roll x).stepped target onward).position
        (s.dip x) } := by
  rw [moveStep_eq, settleDepth_roll, State.roll_setRoll_same]
  rfl

theorem moveStep_ports (s : State) (x : Box) (target : Nat) (onward : RollState) :
    (s.moveStep x target onward).ports = s.ports := settleDepth_ports _ _

theorem moveStep_follows (s : State) (x : Box) (target : Nat) (onward : RollState) :
    s.depthFollows (s.moveStep x target onward) x :=
  depthFollows_setRoll s x rfl

theorem rollStep_standing (h : (s.roll x).state = .unrefIdle ∨ (s.roll x).state = .idle) : rollStep x s = s := by
  rcases h with h | h <;> simp only [rollStep, h]

theorem rollStep_moving {target : Nat} {f : Flight} (h : (s.roll x).state = .moving target f) :
    rollStep x s = if stepToward (s.roll x).position target = target
      then (s.moveStep x target (.moving target f)).complete x ⟨.move, .done, f.start, some target, f.port⟩
      else s.moveStep x target (.moving target f) := by simp only [rollStep, h]

theorem rollStep_auto {target : Nat}
    (h : ((s.roll x).state = .autoLift ∧ target = 0) ∨ (s.roll x).state = .autoLower target) :
    rollStep x s = s.moveStep x target (s.roll x).state := by
  rcases h with ⟨h, rfl⟩ | h <;> simp only [rollStep, h]

/-- A step of a home short of its limit: counted, the position kept. -/
def State.homeCounted (s : State) (x : Box) (n : Nat) (f : Flight) : State :=
  (s.setRoll x { s.roll x with
    state := .homing (n + 1) f, stepPhase := (s.roll x).stepPhase - Config.second }).settleDepth x

/-- A home that has gone to its limit: unreferenced, HOME_FAIL recorded. -/
def State.homeFailed (s : State) (x : Box) (f : Flight) : State :=
  (((s.enterRoll x .unrefIdle).settleDepth x).complete x ⟨.home, .homeFail, f.start, none, f.port⟩).post .rollUnref

theorem rollStep_homing {n : Nat} {f : Flight} (h : (s.roll x).state = .homing n f) :
    rollStep x s = if s.actuators.travel + 200 ≤ n + 1 then s.homeFailed x f else s.homeCounted x n f := by
  simp only [rollStep, h]
  rfl

theorem homeCounted_roll (s : State) (x : Box) (n : Nat) (f : Flight) :
    ((s.homeCounted x n f).roll x).state = .homing (n + 1) f
      ∧ ((s.homeCounted x n f).roll x).position = (s.roll x).position
      ∧ ((s.homeCounted x n f).roll x).slot = (s.roll x).slot := by
  rw [State.homeCounted, settleDepth_roll, State.roll_setRoll_same]
  exact ⟨rfl, rfl, rfl⟩

theorem homeFailed_roll (s : State) (x : Box) (f : Flight) :
    ((s.homeFailed x f).roll x).state = .unrefIdle
      ∧ ((s.homeFailed x f).roll x).position = (s.roll x).position
      ∧ ((s.homeFailed x f).roll x).slot = some ⟨.home, .homeFail, f.start, none, f.port⟩ := by
  rw [State.homeFailed, State.post_roll, complete_roll, settleDepth_roll, State.enterRoll_eq, State.roll_setRoll_same]
  exact ⟨rfl, rfl, rfl⟩

theorem homeFailed_events (s : State) (x : Box) (f : Flight) (p : Port) (i : Nat) :
    ((s.homeFailed x f).port p).events.getLsbD i = true
      ↔ (s.port p).events.getLsbD i = true ∨ i = 8 ∨ (p = f.port ∧ i = (doneFlag x).bit) := by
  have hport : (((s.enterRoll x .unrefIdle).settleDepth x).port p).events = (s.port p).events :=
    congrArg (fun ports : PerPort PortUnit => (ports.get p).events) (settleDepth_ports _ x)
  rw [State.homeFailed, post_events, complete_events, hport, or_assoc]
  exact or_congr_right or_comm

theorem rollStep_follows (hmotion : (s.roll x).state.inMotion = true) : s.depthFollows (rollStep x s) x := by
  cases h : (s.roll x).state with
  | unrefIdle | idle => rw [h] at hmotion; cases hmotion
  | moving target f =>
    rw [rollStep_moving h]
    split
    · exact depthFollows_complete (moveStep_follows s x _ _) _
    · exact moveStep_follows s x _ _
  | homing n f =>
    rw [rollStep_homing h]
    split
    · refine depthFollows_post (depthFollows_complete ?_ _) _
      exact depthFollows_setRoll s x rfl
    · exact depthFollows_setRoll s x rfl
  | autoLift => rw [rollStep_auto (.inl ⟨h, rfl⟩)]; exact moveStep_follows s x _ _
  | autoLower target => rw [rollStep_auto (.inr h)]; exact moveStep_follows s x _ _

theorem rollStep_whole (s : State) (x : Box) : rollStep x s = { s with
    boxes := { s.boxes with rolls := s.boxes.rolls.set x ((rollStep x s).roll x) }
    monitor := { s.monitor with soak := s.monitor.soak.set x ((rollStep x s).soak x) }
    path := { s.path with segments := s.path.segments.set x ((rollStep x s).segment x) }
    ports := (rollStep x s).ports } := by
  obtain ⟨hrolls, hsoak, hsegments⟩ := sameBox.sets fun y hy => sameBox.rollStep s (y := y) (x := x) hy
  rw [← hrolls, ← hsoak, ← hsegments]
  exact (frame_rollStep s x).whole

/-- Settles O36: the roll and the flags by the state of the roll, the depth by one evaluation anew, all else by the
footprint. -/
theorem rollStepMovesOneStep : Obligations.RollStepMovesOneStep := by
  intro x s hrun
  refine ⟨rollStep x s, congrArg Host.Outcome.next (whenRunning_running hrun _), rollStep_whole s x,
    (frame_rollStep s x).eventsOnly (by decide), rollStep_standing, fun target f hstate => ?moving,
    fun target hstate => ?auto, fun n f hstate => ?homing, rollStep_follows⟩
  case moving =>
    have hroll := moveStep_roll s x target (.moving target f)
    rw [rollStep_moving hstate]
    by_cases hreached : stepToward (s.roll x).position target = target
    · rw [if_pos hreached, complete_roll, hroll]
      refine ⟨rfl, fun hne => absurd hreached hne, fun _ => ⟨if_pos hreached, rfl, ?_⟩⟩
      rw [complete_ports, State.port, moveStep_ports]
      cases x <;> rfl
    · rw [if_neg hreached, hroll, moveStep_ports]
      exact ⟨rfl, fun _ => ⟨if_neg hreached, rfl, rfl⟩, fun h => absurd h hreached⟩
  case auto =>
    rw [rollStep_auto hstate, moveStep_roll, moveStep_ports]
    exact ⟨rfl, rfl, rfl, rfl⟩
  case homing =>
    rw [rollStep_homing hstate]
    by_cases hlimit : s.actuators.travel + 200 ≤ n + 1
    · obtain ⟨hend, hposition, hslot⟩ := homeFailed_roll s x f
      rw [if_pos hlimit]
      refine ⟨hposition, fun h => absurd hlimit (Nat.not_le.mpr h), fun _ => ⟨hend, hslot, fun p i => ?_⟩⟩
      refine (homeFailed_events s x f p i).trans ?_
      cases x <;> rfl
    · obtain ⟨hcount, hposition, hslot⟩ := homeCounted_roll s x n f
      rw [if_neg hlimit]
      exact ⟨hposition, fun _ => ⟨hcount, hslot, settleDepth_ports _ x⟩, fun h => absurd h hlimit⟩

/-! ### The end of a home at the switch (R94) -/

theorem depthOf_home (dip : Nat) : depthOf .idle 0 dip = if 10 < dip then .out else .atDepth := by
  by_cases h : 10 < dip <;> simp [depthOf, belowDepth, RollState.referenced, Config.depthTolerance, h]

theorem homeDone_roll (s : State) (x : Box) (f : Flight) : (s.homeDone x f).roll x = { s.roll x with
    position := 0, state := .idle, stepPhase := 0, slot := some ⟨.home, .done, f.start, some 0, f.port⟩
    depth := if 10 < s.dip x then .out else .atDepth } := by
  rw [State.homeDone, complete_roll, settleDepth_roll, State.roll_setRoll_same]
  exact congrArg (fun d => { s.roll x with
    position := 0, state := .idle, stepPhase := 0, slot := some ⟨.home, .done, f.start, some 0, f.port⟩
    depth := d }) (depthOf_home (s.dip x))

theorem homeDone_ports (s : State) (x : Box) (f : Flight) : (s.homeDone x f).ports =
    s.ports.set f.port { s.port f.port with events := (s.port f.port).events ||| (doneFlag x).set } := by
  rw [State.homeDone, complete_ports, State.port, settleDepth_ports]
  rfl

theorem homeDone_follows (s : State) (x : Box) (f : Flight) : s.depthFollows (s.homeDone x f) x :=
  depthFollows_complete (depthFollows_setRoll s x (by rfl)) _

theorem homeDone_whole (s : State) (x : Box) (f : Flight) : s.homeDone x f = { s with
    boxes := { s.boxes with rolls := s.boxes.rolls.set x ((s.homeDone x f).roll x) }
    monitor := { s.monitor with soak := s.monitor.soak.set x ((s.homeDone x f).soak x) }
    path := { s.path with segments := s.path.segments.set x ((s.homeDone x f).segment x) }
    ports := (s.homeDone x f).ports } := by
  obtain ⟨hrolls, hsoak, hsegments⟩ := sameBox.sets fun y hy => sameBox.homeDone s f (y := y) (x := x) hy
  rw [← hrolls, ← hsoak, ← hsegments]
  exact (frame_homeDone s x f).whole

/-- Settles O37: becoming active in HOMING is `homeDone` behind the noted level, all else the note alone. -/
theorem homeSwitchEndsTheHome : Obligations.HomeSwitchEndsTheHome := by
  intro x level s hrun noted
  have hexec : exec (.homeSwitchActive x level) s = .next (homeSwitchActive x level s) :=
    congrArg Host.Outcome.next (if_pos hrun)
  refine ⟨fun hstill => ?_, fun n f hlevel hstate => ⟨noted.homeDone x f, ?_, ?_, ?_⟩⟩
  · rw [hexec, homeSwitchActive]
    refine congrArg Host.Outcome.next ?_
    split
    · next n f hstate => exact if_neg (by simpa using hstill.resolve_right fun h => h n f hstate)
    all_goals rfl
  · rw [hexec]
    refine congrArg Host.Outcome.next ?_
    subst hlevel
    simp only [homeSwitchActive]
    rw [show ((s.noteSwitch x true).roll x).state = .homing n f from hstate]
    rfl
  · refine (homeDone_whole noted x f).trans ?_
    rw [homeDone_ports noted x f]
    cases x <;> rfl
  · rw [homeDone_roll]
    exact ⟨rfl, rfl, rfl, rfl, homeDone_follows noted x f⟩

end steps

end Sys2Proof.Machine
end

section
/-! The rolls: HOME ROLL, COLLECT, the auto-lift expiry and RESET FIELD. -/

namespace Sys2Proof.Machine

/-! ### The work of a grant on the granted state -/

section granted
variable (s : State) (p : Port) (x : Box)

theorem State.grant_settleDepth : (s.grant p).settleDepth x = (s.settleDepth x).grant p := by
  rw [State.settleDepth_eq s x _ rfl, State.settleDepth_eq (s.grant p) x _ rfl]
  rfl

theorem State.grant_homeDone (f : Flight) : (s.grant p).homeDone x f = (s.homeDone x f).grant p := by
  rw [State.homeDone, State.homeDone, ← State.grant_complete, ← State.grant_settleDepth]
  rfl

end granted

/-! ### HOME ROLL (R93) -/

section home
variable {s : State} {x : Box} {port : Port} {box : Byte}

theorem permitted_homeRoll (r : Role) : permitted r .homeRoll = true ↔ r = .line ∨ r = .station := by
  cases r <;> decide

theorem permitted_collect (r : Role) : permitted r .collect = true ↔ r = .line ∨ r = .station := by
  cases r <;> decide

/-- The state as a home finds it, its window emptied where the home takes the roll out of depth. -/
def State.homeEmptied (s : State) (x : Box) : State :=
  if (s.roll x).depth ≠ .out ∧ belowDepth 0 (s.dip x) = true then s.emptyWindow x else s

theorem homeEmptied_eq (s : State) (x : Box) : s.homeEmptied x = { s with
    addOn := if (s.roll x).depth ≠ .out ∧ 10 < s.dip x then
        { s.addOn with windows := s.addOn.windows.set x [] } else s.addOn } := by
  have hbelow : belowDepth 0 (s.dip x) = true ↔ 10 < s.dip x := by
    simp [belowDepth, Config.depthTolerance]
  simp only [State.homeEmptied, hbelow]
  split <;> rfl

theorem startHome_atSwitch (h : s.boxes.homeSwitch.get x = true) :
    s.startHome x port = s.homeDone x ⟨port, (s.roll x).position⟩ := if_pos h

theorem startHome_away (h : s.boxes.homeSwitch.get x = false) : s.startHome x port
    = ((s.homeEmptied x).enterRoll x (.homing 0 ⟨port, (s.roll x).position⟩)).settleDepth x :=
  if_neg (by simp [h])

theorem State.grant_startHome (s : State) (p : Port) (x : Box) (port : Port) :
    (s.grant p).startHome x port = (s.startHome x port).grant p := by
  cases h : s.boxes.homeSwitch.get x with
  | true => rw [startHome_atSwitch h, startHome_atSwitch (s := s.grant p) h, ← State.grant_homeDone]; rfl
  | false =>
    rw [startHome_away h, startHome_away (s := s.grant p) h, ← State.grant_settleDepth, homeEmptied_eq,
      homeEmptied_eq]
    rfl

theorem sameBox.startHome (s : State) (port : Port) {y : Box} (h : y ≠ x) : sameBox s (s.startHome x port) y := by
  cases hswitch : s.boxes.homeSwitch.get x with
  | true => rw [startHome_atSwitch hswitch]; exact .homeDone s _ h
  | false =>
    have hemptied : sameBox s (s.homeEmptied x) y := by rw [homeEmptied_eq]; exact ⟨rfl, rfl, rfl⟩
    rw [startHome_away hswitch]
    exact hemptied.trans ((sameBox.setRoll _ _ h).trans (sameBox.settleDepth _ h))

theorem startHome_whole (s : State) (x : Box) (port : Port) : s.startHome x port = { s with
    boxes := { s.boxes with rolls := s.boxes.rolls.set x ((s.startHome x port).roll x) }
    monitor := { s.monitor with soak := s.monitor.soak.set x ((s.startHome x port).soak x) }
    path := { s.path with segments := s.path.segments.set x ((s.startHome x port).segment x) }
    addOn := (s.startHome x port).addOn
    ports := (s.startHome x port).ports } := by
  obtain ⟨hrolls, hsoak, hsegments⟩ := sameBox.sets fun y hy => sameBox.startHome s port (y := y) (x := x) hy
  rw [← hrolls, ← hsoak, ← hsegments]
  exact ((frame_startHome s x port).mono (qs := [.rolls, .soak, .causes, .windows, .reports, .events])
    (by decide)).whole

theorem startHome_follows (s : State) (x : Box) (port : Port) : s.depthFollows (s.startHome x port) x := by
  cases hswitch : s.boxes.homeSwitch.get x with
  | true => rw [startHome_atSwitch hswitch]; exact homeDone_follows s x _
  | false =>
    rw [startHome_away hswitch, homeEmptied_eq, State.enterRoll_eq]
    exact depthFollows_setRoll { s with addOn := _ } x rfl

theorem settleDepth_addOn (s : State) (x : Box) : (s.settleDepth x).addOn = s.addOn := by
  rw [State.settleDepth_eq s x _ rfl]
  rfl

theorem startHome_away_roll (h : s.boxes.homeSwitch.get x = false) : (s.startHome x port).roll x = { s.roll x with
    state := .homing 0 ⟨port, (s.roll x).position⟩, stepPhase := 0, depth := .unknown } := by
  rw [startHome_away h, settleDepth_roll, State.enterRoll_eq, State.roll_setRoll_same, homeEmptied_eq]
  rfl

theorem homeRollWork_unnamed (hx : s.existingBox box = none) : homeRollWork port box s = .plain s .range := by
  simp only [homeRollWork, hx]

theorem homeRollWork_busy (hx : s.existingBox box = some x)
    (hbusy : s.boxes.fieldReset.isSome = true ∨ (s.roll x).state.inMotion = true) :
    homeRollWork port box s = .plain s .busy := by
  simp only [homeRollWork, hx]
  rcases hbusy with hreset | hmotion
  · rw [if_pos hreset]
  · rw [if_pos hmotion, ite_self]

theorem homeRollWork_pending (hx : s.existingBox box = some x) (hreset : s.boxes.fieldReset = none)
    (hstill : (s.roll x).state.inMotion = false) (hslot : (s.roll x).slot.isSome = true) :
    homeRollWork port box s = .plain s .pending := by
  simp only [homeRollWork, hx, hreset, hstill, hslot]
  rfl

theorem homeRollWork_accepted (hx : s.existingBox box = some x) (hreset : s.boxes.fieldReset = none)
    (hstill : (s.roll x).state.inMotion = false) (hslot : (s.roll x).slot = none) :
    homeRollWork port box s = .done (s.startHome x port) .started [] := by
  simp only [homeRollWork, hx, hreset, hstill, hslot]
  rfl

theorem exec_collect_named {h : Hdr} (ha : s.admits h .collect) (hx : s.existingBox box = some x) :
    exec (.collect h box) s = match (s.roll x).slot with
      | none => .next (s.replied h .none [])
      | some c => .next ((s.setRoll x { s.roll x with slot := none }).replied h .ok c.bytes) := by
  cases hslot : (s.roll x).slot with
  | none =>
    refine run_plain ha ?_
    simp only [collectWork, State.grant_existingBox, hx, State.grant_roll, hslot]
  | some c =>
    refine run_done ha ?_
    simp only [collectWork, State.grant_existingBox, hx, State.grant_roll, hslot]
    rfl

/-- Settles O39: the refusals in their order, then the home begun at the switch and the home begun away from it; and the
slot read and emptied. -/
theorem homeRollStartsAndCollectTakes : Obligations.HomeRollStartsAndCollectTakes := by
  refine ⟨fun r => ⟨permitted_homeRoll r, permitted_collect r⟩, fun h box s ha => ?home, fun h box s ha =>
    ⟨fun hx => ?_, fun x hx => exec_collect_named ha hx⟩⟩
  case home =>
    have refused {status : Status}
        (hwork : homeRollWork h.port box (s.grant h.port) = .plain (s.grant h.port) status) :
        exec (.homeRoll h box) s = .next (s.replied h status []) := run_plain ha hwork
    refine ⟨fun hx => refused (homeRollWork_unnamed (s := s.grant h.port) hx), fun x hx =>
      ⟨fun hbusy => refused (homeRollWork_busy (s := s.grant h.port) hx hbusy), fun hreset hstill hslot =>
        refused (homeRollWork_pending (s := s.grant h.port) hx hreset hstill hslot), fun hreset hstill hslot =>
        ⟨s.startHome x h.port, ?_, startHome_whole s x h.port, startHome_follows s x h.port, fun hswitch => ?_,
          fun hswitch => ?_⟩⟩⟩
    · refine run_done ha ?_
      rw [← State.grant_startHome]
      exact homeRollWork_accepted (s := s.grant h.port) hx hreset hstill hslot
    · rw [startHome_atSwitch hswitch, homeDone_roll, homeDone_ports]
      refine ⟨rfl, rfl, rfl, ?_, by cases x <;> rfl⟩
      exact settleDepth_addOn _ x
    · rw [startHome_away_roll hswitch, startHome_away hswitch, settleDepth_addOn, settleDepth_ports, homeEmptied_eq]
      exact ⟨rfl, rfl, rfl, hslot, rfl, rfl⟩
  · refine run_plain ha ?_
    simp only [collectWork, State.grant_existingBox, hx]

end home

end Sys2Proof.Machine
end

section
/-! Both rolls at once: the auto-lift expiry and RESET FIELD. -/

namespace Sys2Proof.Machine

/-! ### One roll at the auto-lift expiry (R97) -/

section lift
variable {s : State} {x y : Box}

/-- A roll the auto-lift expiry lifts: it exists, stands above 0, is referenced and is not lifting already. -/
abbrev State.lifts (s : State) (x : Box) : Prop := s.laneExists x = true ∧ 0 < (s.roll x).position
  ∧ (s.roll x).state.referenced = true ∧ (s.roll x).state ≠ .autoLift

/-- The record of a master move that a lift preempts. -/
def RollChannel.preempted (r : RollChannel) : Option Completion :=
  match r.state with
  | .moving _ f => some ⟨.move, .preempted, f.start, some r.position, f.port⟩
  | .unrefIdle | .idle | .homing _ _ | .autoLift | .autoLower _ => none

theorem preempted_moving {r : RollChannel} {target : Nat} {f : Flight} (h : r.state = .moving target f) :
    r.preempted = some ⟨.move, .preempted, f.start, some r.position, f.port⟩ := by simp only [RollChannel.preempted, h]

theorem preempted_still {r : RollChannel} (h : ∀ target f, r.state ≠ .moving target f) : r.preempted = none := by
  unfold RollChannel.preempted
  split
  · next target f hstate => exact absurd hstate (h target f)
  all_goals rfl

/-- The ports with the flag of a completion posted to its port. -/
def State.portsAfter (s : State) (x : Box) : Option Completion → PerPort PortUnit
  | some c => s.ports.set c.port { s.port c.port with events := (s.port c.port).events ||| (doneFlag x).set }
  | none => s.ports

theorem portsAfter_events (s : State) (x : Box) (o : Option Completion) (p : Port) (i : Nat) :
    ((s.portsAfter x o).get p).events.getLsbD i = true ↔ (s.port p).events.getLsbD i = true
      ∨ ∃ c, o = some c ∧ c.port = p ∧ i = (doneFlag x).bit := by
  cases o with
  | none => simp [State.portsAfter, State.port]
  | some c =>
    have h := complete_events s x c p i
    rw [State.port, complete_ports] at h
    rw [State.portsAfter, h]
    refine or_congr_right ⟨fun ⟨hp, hi⟩ => ⟨c, rfl, hp.symm, hi⟩, ?_⟩
    rintro ⟨d, hd, hp, hi⟩
    cases hd
    exact ⟨hp.symm, hi⟩

theorem autoLiftRoll_left (h : ¬s.lifts x) : s.autoLiftRoll x = s := by
  unfold State.autoLiftRoll
  dsimp only
  split
  · next hup =>
    rw [Bool.and_eq_true, decide_eq_true_iff] at hup
    have hstate : (s.roll x).state.referenced = true → (s.roll x).state = .autoLift := fun href => by
      by_contra hne
      exact h ⟨hup.1, hup.2, href, hne⟩
    split <;> simp_all [RollState.referenced]
  · rfl

theorem autoLiftRoll_lifted (h : s.lifts x) : s.autoLiftRoll x = { s with
    boxes := { s.boxes with rolls := s.boxes.rolls.set x { s.roll x with
      state := .autoLift, stepPhase := 0, slot := (s.roll x).preempted.or (s.roll x).slot } }
    addOn := { s.addOn with windows := s.addOn.windows.set x [] }
    ports := s.portsAfter x (s.roll x).preempted } := by
  obtain ⟨hlane, hposition, href, hlift⟩ := h
  rw [State.autoLiftRoll, if_pos (by simp [hlane, hposition])]
  cases hstate : (s.roll x).state with
  | unrefIdle | homing => rw [hstate] at href; cases href
  | autoLift => exact absurd hstate hlift
  | idle | autoLower =>
    simp only [RollChannel.preempted, hstate]
    rfl
  | moving target f =>
    simp only [RollChannel.preempted, hstate]
    cases x <;> rfl

/-- What a lift of one roll leaves of both rolls and windows, the lifted state compared with the one before it. -/
structure liftedTo (s t : State) (x : Box) : Prop where
  left : ¬s.lifts x → t.roll x = s.roll x ∧ t.window x = s.window x
  lifted : s.lifts x → t.window x = [] ∧ t.roll x = { s.roll x with
    state := .autoLift, stepPhase := 0, slot := (s.roll x).preempted.or (s.roll x).slot }

theorem autoLiftRoll_liftedTo (s : State) (x : Box) : liftedTo s (s.autoLiftRoll x) x := by
  refine ⟨fun h => ?_, fun h => ?_⟩
  · rw [autoLiftRoll_left h]
    exact ⟨rfl, rfl⟩
  · rw [autoLiftRoll_lifted h]
    exact ⟨PerBox.get_set_same .., PerBox.get_set_same ..⟩

/-- The other roll and its window are left alone. -/
theorem autoLiftRoll_other (s : State) (h : y ≠ x) :
    (s.autoLiftRoll x).roll y = s.roll y ∧ (s.autoLiftRoll x).window y = s.window y
      ∧ (s.autoLiftRoll x).laneExists y = s.laneExists y := by
  by_cases hl : s.lifts x
  · rw [autoLiftRoll_lifted hl]
    exact ⟨PerBox.get_set_ne _ _ h, PerBox.get_set_ne _ _ h, by cases y <;> rfl⟩
  · rw [autoLiftRoll_left hl]
    exact ⟨rfl, rfl, rfl⟩

theorem lifts_congr {t : State} (hroll : t.roll x = s.roll x) (hlane : t.laneExists x = s.laneExists x) :
    t.lifts x ↔ s.lifts x := by rw [State.lifts, hroll, hlane]

theorem liftedTo_congr {t u v : State} (h : liftedTo t u x) (hroll : t.roll x = s.roll x)
    (hwindow : t.window x = s.window x) (hlane : t.laneExists x = s.laneExists x) (hroll' : v.roll x = u.roll x)
    (hwindow' : v.window x = u.window x) : liftedTo s v x := by
  obtain ⟨left, lifted⟩ := h
  rw [lifts_congr hroll hlane, hroll, hwindow] at *
  exact ⟨by rwa [hroll', hwindow'], by rwa [hroll', hwindow']⟩

theorem autoLiftRoll_events (s : State) (x : Box) (p : Port) (i : Nat) :
    ((s.autoLiftRoll x).port p).events.getLsbD i = true ↔ (s.port p).events.getLsbD i = true
      ∨ ∃ target f, s.lifts x ∧ (s.roll x).state = .moving target f ∧ f.port = p ∧ i = (doneFlag x).bit := by
  by_cases hl : s.lifts x
  · rw [autoLiftRoll_lifted hl]
    refine (portsAfter_events s x _ p i).trans (or_congr_right ⟨?_, ?_⟩)
    · rintro ⟨c, hc, hport, hi⟩
      by_cases hmove : ∃ target f, (s.roll x).state = .moving target f
      · obtain ⟨target, f, hstate⟩ := hmove
        rw [preempted_moving hstate] at hc
        cases hc
        exact ⟨target, f, hl, hstate, hport, hi⟩
      · rw [preempted_still fun target f h => hmove ⟨target, f, h⟩] at hc
        cases hc
    · rintro ⟨target, f, -, hstate, hport, hi⟩
      exact ⟨_, preempted_moving hstate, hport, hi⟩
  · rw [autoLiftRoll_left hl]
    simp [hl]

end lift

/-! ### The auto-lift expiry -/

section expiry
variable {s : State}

/-- The state with the auto-lift timer stopped. -/
def State.liftStopped (s : State) : State := { s with boxes := { s.boxes with autoLift := none } }

theorem autoLiftExpiry_running (h : s.boxes.autoLift.isSome = true) :
    autoLiftExpiry s = (s.liftStopped.autoLiftRoll .a).autoLiftRoll .b := by
  obtain ⟨t, ht⟩ := Option.isSome_iff_exists.mp h
  simp only [autoLiftExpiry, ht]
  rfl

theorem autoLifted_liftedTo (s : State) (x : Box) :
    liftedTo s ((s.liftStopped.autoLiftRoll .a).autoLiftRoll .b) x := by
  cases x with
  | a =>
    obtain ⟨hroll, hwindow, -⟩ := autoLiftRoll_other (s.liftStopped.autoLiftRoll .a) (x := .b) (y := .a) (by decide)
    exact liftedTo_congr (autoLiftRoll_liftedTo s.liftStopped .a) rfl rfl rfl hroll hwindow
  | b =>
    obtain ⟨hroll, hwindow, hlane⟩ := autoLiftRoll_other s.liftStopped (x := .a) (y := .b) (by decide)
    exact liftedTo_congr (autoLiftRoll_liftedTo (s.liftStopped.autoLiftRoll .a) .b) hroll hwindow hlane rfl rfl

theorem autoLifted_events (s : State) (p : Port) (i : Nat) :
    (((s.liftStopped.autoLiftRoll .a).autoLiftRoll .b).port p).events.getLsbD i = true
      ↔ (s.port p).events.getLsbD i = true ∨ ∃ x target f, s.lifts x ∧ (s.roll x).state = .moving target f
        ∧ f.port = p ∧ i = (doneFlag x).bit := by
  obtain ⟨hroll, -, hlane⟩ := autoLiftRoll_other s.liftStopped (x := .a) (y := .b) (by decide)
  rw [autoLiftRoll_events, autoLiftRoll_events, lifts_congr hroll hlane, hroll, Box.exists_iff, ← or_assoc]
  rfl

/-- Settles O40: each roll by whether it is lifted, the flags by the moves preempted. -/
theorem autoLiftLiftsReferencedRolls : Obligations.AutoLiftLiftsReferencedRolls := by
  intro s hrun
  refine ⟨fun hnone => ?_, fun hsome => ?_⟩
  · refine congrArg Host.Outcome.next ((whenRunning_running hrun _).trans ?_)
    simp only [autoLiftExpiry, hnone]
  · have hframe : Frame [.rolls, .windows, .events] s.liftStopped
        ((s.liftStopped.autoLiftRoll .a).autoLiftRoll .b) :=
      (frame_autoLiftRoll _ .a).trans (frame_autoLiftRoll _ .b)
    refine ⟨(s.liftStopped.autoLiftRoll .a).autoLiftRoll .b, ?_, hframe.whole, hframe.eventsOnly (by decide),
      fun p i => ?_, fun x => ⟨(autoLifted_liftedTo s x).left, fun hl => ?_⟩⟩
    · exact congrArg Host.Outcome.next ((whenRunning_running hrun _).trans (autoLiftExpiry_running hsome))
    · exact (autoLifted_events s p i).trans (or_congr_right (exists_congr fun x => by cases x <;> rfl))
    · obtain ⟨hwindow, hroll⟩ := (autoLifted_liftedTo s x).lifted hl
      rw [hroll]
      refine ⟨hwindow, rfl, rfl, rfl, fun target f hstate => ?_, fun hstill => ?_⟩
      · rw [preempted_moving hstate]
        rfl
      · rw [preempted_still hstill]
        rfl

end expiry

/-! ### RESET FIELD (R100, R101) -/

section fieldReset
variable {s : State} {x y : Box}

theorem resetRoll_absent (h : s.laneExists x = false) : s.resetRoll x = s := if_neg (by simp [h])

/-- The roll's move or home in flight recorded, the roll in UNREF_IDLE. -/
def State.unreferenced (s : State) (x : Box) : State := { s with
  boxes := { s.boxes with rolls := s.boxes.rolls.set x { s.roll x with
    state := .unrefIdle, stepPhase := 0
    slot := ((s.roll x).state.resetRecord (s.roll x).position).or (s.roll x).slot } }
  ports := s.portsAfter x ((s.roll x).state.resetRecord (s.roll x).position) }

theorem unreferenced_still (h : (s.roll x).state.resetRecord (s.roll x).position = none) :
    s.unreferenced x = s.enterRoll x .unrefIdle := by
  rw [State.unreferenced, h]
  rfl

theorem unreferenced_flying {c : Completion} (h : (s.roll x).state.resetRecord (s.roll x).position = some c) :
    s.unreferenced x = (s.complete x c).enterRoll x .unrefIdle := by
  rw [State.unreferenced, h]
  cases x <;> rfl

theorem resetRoll_existing (h : s.laneExists x = true) : s.resetRoll x = (s.unreferenced x).settleDepth x := by
  rw [State.resetRoll, if_pos h]
  refine congrArg (State.settleDepth · x) ?_
  cases hrecord : (s.roll x).state.resetRecord (s.roll x).position with
  | none => rw [unreferenced_still hrecord]
  | some c => rw [unreferenced_flying hrecord]

theorem unreferenced_roll (s : State) (x : Box) : (s.unreferenced x).roll x = { s.roll x with
    state := .unrefIdle, stepPhase := 0
    slot := ((s.roll x).state.resetRecord (s.roll x).position).or (s.roll x).slot } := PerBox.get_set_same ..

theorem resetRoll_roll (h : s.laneExists x = true) : (s.resetRoll x).roll x = { s.roll x with
    state := .unrefIdle, stepPhase := 0, depth := .unknown
    slot := ((s.roll x).state.resetRecord (s.roll x).position).or (s.roll x).slot } := by
  rw [resetRoll_existing h, settleDepth_roll, unreferenced_roll]
  rfl

theorem resetRoll_follows (h : s.laneExists x = true) : s.depthFollows (s.resetRoll x) x := by
  rw [resetRoll_existing h]
  exact depthFollows_settleDepth (by rw [unreferenced_roll]) rfl rfl

theorem sameBox.resetRoll (s : State) (h : y ≠ x) : sameBox s (s.resetRoll x) y := by
  cases hlane : s.laneExists x with
  | false => rw [resetRoll_absent hlane]; exact .refl s y
  | true =>
    have hunref : sameBox s (s.unreferenced x) y := ⟨PerBox.get_set_ne _ _ h, rfl, rfl⟩
    rw [resetRoll_existing hlane]
    exact hunref.trans (.settleDepth _ h)

theorem resetRecord_eq_some {st : RollState} {position : Nat} {c : Completion} :
    st.resetRecord position = some c → ∃ f : Flight, f.port = c.port ∧ ((∃ target, st = .moving target f)
      ∨ ∃ n, st = .homing n f) := by
  cases st with
  | moving target f => intro h; cases h; exact ⟨f, rfl, .inl ⟨target, rfl⟩⟩
  | homing n f => intro h; cases h; exact ⟨f, rfl, .inr ⟨n, rfl⟩⟩
  | unrefIdle | idle | autoLift | autoLower => intro h; cases h

theorem resetRoll_events (s : State) (x : Box) (p : Port) (i : Nat) :
    ((s.resetRoll x).port p).events.getLsbD i = true ↔ (s.port p).events.getLsbD i = true
      ∨ ∃ f, s.laneExists x = true ∧ f.port = p ∧ i = (doneFlag x).bit
        ∧ ((∃ target, (s.roll x).state = .moving target f) ∨ ∃ n, (s.roll x).state = .homing n f) := by
  cases hlane : s.laneExists x with
  | false =>
    rw [resetRoll_absent hlane]
    simp
  | true =>
    rw [resetRoll_existing hlane, State.port, settleDepth_ports]
    refine (portsAfter_events s x _ p i).trans (or_congr_right ⟨?_, ?_⟩)
    · rintro ⟨c, hc, hport, hi⟩
      obtain ⟨f, hf, hflight⟩ := resetRecord_eq_some hc
      exact ⟨f, rfl, hf.trans hport, hi, hflight⟩
    · rintro ⟨f, -, hport, hi, ⟨target, hstate⟩ | ⟨n, hstate⟩⟩ <;> rw [hstate] <;> exact ⟨_, rfl, hport, hi⟩

theorem resetRoll_settings (s : State) (x : Box) : (s.resetRoll x).settings = s.settings :=
  (congrArg State.settings (frame_resetRoll s x).whole).trans rfl

theorem laneExists_of_settings {t : State} (h : t.settings = s.settings) (x : Box) :
    t.laneExists x = s.laneExists x := by
  cases x
  · rfl
  · exact congrArg (fun g : Settings => ({ s with settings := g } : State).laneExists .b) h

theorem State.grant_resetRoll (s : State) (p : Port) (x : Box) : (s.grant p).resetRoll x = (s.resetRoll x).grant p := by
  cases hlane : s.laneExists x with
  | false => rw [resetRoll_absent hlane, resetRoll_absent (s := s.grant p) hlane]
  | true =>
    rw [resetRoll_existing hlane, resetRoll_existing (s := s.grant p) hlane, ← State.grant_settleDepth]
    refine congrArg (State.settleDepth · x) ?_
    cases h : (s.roll x).state.resetRecord (s.roll x).position with
    | none =>
      rw [unreferenced_still h, unreferenced_still (s := s.grant p) h]
      rfl
    | some c =>
      rw [unreferenced_flying h, unreferenced_flying (s := s.grant p) h, State.grant_complete]
      rfl

/-- The state at the start of the field reset period, the rolls not yet touched. -/
def State.resetBegun (s : State) : State := { s with
  boxes := { s.boxes with fieldReset := some 500000 }
  beams := { s.beams with cutJet := none, faultJet := none } }

/-- The effects of an accepted RESET FIELD. -/
def State.fieldWasReset (s : State) : State := ((s.resetBegun.resetRoll .a).resetRoll .b).post .rollUnref

theorem resetFieldWork_running (h : s.boxes.fieldReset.isSome = true) : resetFieldWork s = .plain s .busy := if_pos h

theorem resetFieldWork_begun (h : s.boxes.fieldReset = none) : resetFieldWork s = .done s.fieldWasReset .ok [] :=
  if_neg (by simp [h])

theorem State.grant_fieldWasReset (s : State) (p : Port) : (s.grant p).fieldWasReset = s.fieldWasReset.grant p := by
  rw [State.fieldWasReset, State.fieldWasReset, ← State.grant_post, ← State.grant_resetRoll, ← State.grant_resetRoll]
  rfl

/-- A box stands after the whole command as after the reset of its own roll. -/
theorem fieldWasReset_box (s : State) : (∀ x, ∃ u, u.settings = s.settings ∧ sameBox s u x
    ∧ sameBox (u.resetRoll x) s.fieldWasReset x) := by
  have hpost : sameBox ((s.resetBegun.resetRoll .a).resetRoll .b) s.fieldWasReset .a :=
    .of_frame (frame_post _ _) (by decide) .a
  intro x
  cases x with
  | a => exact ⟨s.resetBegun, rfl, ⟨rfl, rfl, rfl⟩, (sameBox.resetRoll _ (by decide)).trans hpost⟩
  | b =>
    refine ⟨s.resetBegun.resetRoll .a, resetRoll_settings _ .a, ?_, .of_frame (frame_post _ _) (by decide) .b⟩
    exact sameBox.trans (t := s.resetBegun) ⟨rfl, rfl, rfl⟩ (sameBox.resetRoll _ (by decide))

theorem fieldWasReset_settings (s : State) : s.fieldWasReset.settings = s.settings :=
  (resetRoll_settings _ .b).trans (resetRoll_settings _ .a)

theorem depthFollows_left {t u : State} (hbox : sameBox s u x) (h : u.depthFollows t x) : s.depthFollows t x := by
  unfold State.depthFollows at *
  rwa [hbox.roll, hbox.soak, hbox.segment] at h

theorem fieldWasReset_existing (h : s.laneExists x = true) :
    s.fieldWasReset.roll x = { s.roll x with
      state := .unrefIdle, stepPhase := 0, depth := .unknown
      slot := ((s.roll x).state.resetRecord (s.roll x).position).or (s.roll x).slot }
    ∧ s.depthFollows s.fieldWasReset x := by
  obtain ⟨u, hsettings, hbefore, hafter⟩ := fieldWasReset_box s x
  have hlane : u.laneExists x = true := (laneExists_of_settings hsettings x).trans h
  refine ⟨by rw [hafter.roll, resetRoll_roll hlane, hbefore.roll], ?_⟩
  refine hafter.depthFollows ?_ (depthFollows_left hbefore (resetRoll_follows hlane))
  rw [fieldWasReset_settings, resetRoll_settings, hsettings]

theorem fieldWasReset_absent (h : s.laneExists x = false) : sameBox s s.fieldWasReset x := by
  obtain ⟨u, hsettings, hbefore, hafter⟩ := fieldWasReset_box s x
  rw [resetRoll_absent ((laneExists_of_settings hsettings x).trans h)] at hafter
  exact hbefore.trans hafter

theorem fieldWasReset_events (s : State) (p : Port) (i : Nat) :
    (s.fieldWasReset.port p).events.getLsbD i = true ↔ (s.port p).events.getLsbD i = true ∨ i = 8
      ∨ ∃ x f, s.laneExists x = true ∧ f.port = p ∧ i = (doneFlag x).bit
        ∧ ((∃ target, (s.roll x).state = .moving target f) ∨ ∃ n, (s.roll x).state = .homing n f) := by
  have hlane : (s.resetBegun.resetRoll .a).laneExists .b = s.laneExists .b :=
    laneExists_of_settings (resetRoll_settings s.resetBegun .a) .b
  have hroll : (s.resetBegun.resetRoll .a).roll .b = s.roll .b :=
    (sameBox.resetRoll s.resetBegun (x := .a) (y := .b) (by decide)).roll
  rw [State.fieldWasReset, post_events, resetRoll_events, resetRoll_events, hlane, hroll, Box.exists_iff, or_assoc,
    or_assoc, ← or_assoc (c := i = _), or_comm (b := i = _)]
  rfl

theorem fieldWasReset_whole (s : State) : s.fieldWasReset = { s with
    boxes := { s.boxes with rolls := s.fieldWasReset.boxes.rolls, fieldReset := some 500000 }
    beams := { s.beams with cutJet := none, faultJet := none }
    monitor := { s.monitor with soak := s.fieldWasReset.monitor.soak }
    path := { s.path with segments := s.fieldWasReset.path.segments }
    ports := s.fieldWasReset.ports } := by
  have hframe : Frame [.rolls, .soak, .causes, .events] s.resetBegun s.fieldWasReset :=
    ((frame_resetRoll _ .a).trans (frame_resetRoll _ .b)).trans ((frame_post _ _).mono (by decide))
  exact hframe.whole

theorem fieldWasReset_eventsOnly (s : State) : s.eventsOnly s.fieldWasReset := by
  have hframe : Frame [.rolls, .soak, .causes, .events] s.resetBegun s.fieldWasReset :=
    ((frame_resetRoll _ .a).trans (frame_resetRoll _ .b)).trans ((frame_post _ _).mono (by decide))
  exact hframe.eventsOnly (by decide)

/-- Settles O41: every existing roll by `resetRoll`, the flags by the moves and homes in flight. -/
theorem resetFieldUnreferencesTheRolls : Obligations.ResetFieldUnreferencesTheRolls := by
  refine fun h s ha => ⟨fun hbusy => run_plain ha (resetFieldWork_running (s := s.grant h.port) hbusy), fun hfree =>
    ⟨s.fieldWasReset, ?_, fieldWasReset_whole s, fun x hlane => ?_, fun x hlane => ?_, fieldWasReset_eventsOnly s,
      fun p i => ?_⟩⟩
  · refine run_done ha ?_
    rw [← State.grant_fieldWasReset]
    exact resetFieldWork_begun (s := s.grant h.port) hfree
  · obtain ⟨hroll, hfollows⟩ := fieldWasReset_existing hlane
    rw [hroll]
    refine ⟨rfl, rfl, rfl, hfollows, fun target f hstate => ?_, fun n f hstate => ?_, fun hmove hhome => ?_⟩
    · rw [hstate]
      rfl
    · rw [hstate]
      rfl
    · cases hrecord : (s.roll x).state.resetRecord (s.roll x).position with
      | none => rfl
      | some c =>
        obtain ⟨f, -, ⟨target, hstate⟩ | ⟨n, hstate⟩⟩ := resetRecord_eq_some hrecord
        · exact absurd hstate (hmove target f)
        · exact absurd hstate (hhome n f)
  · obtain ⟨hroll, hsoak, hsegment⟩ := fieldWasReset_absent hlane
    exact ⟨hroll, hsoak, hsegment⟩
  · exact (fieldWasReset_events s p i).trans
      (or_congr_right (or_congr_right (exists_congr fun x => by cases x <;> rfl)))

end fieldReset

end Sys2Proof.Machine
end

section
/-! Style writes and switches, and the doff that makes them. -/

namespace Sys2Proof.Machine

/-! ### Both depth conditions evaluated anew -/

section both
variable {s u : State}

theorem settleDepth_settings (s : State) (x : Box) : (s.settleDepth x).settings = s.settings :=
  (congrArg State.settings (frame_settleDepth s x).whole).trans rfl

/-- Both evaluations stand behind one another, for each box that was kept before them. -/
theorem settleDepths_follows (h : ∀ x, sameBox s u x) (x : Box) :
    s.depthFollows u.settleDepths x ∧ u.settleDepths.roll x =
      { s.roll x with depth := (u.settleDepths.roll x).depth } := by
  obtain ⟨hroll, hsoak, hsegment⟩ := h x
  cases x with
  | a =>
    have hother : sameBox (u.settleDepth .a) u.settleDepths .a := .settleDepth _ (by decide)
    refine ⟨hother.depthFollows (settleDepth_settings _ .b)
      (depthFollows_settleDepth (by rw [hroll]) hsoak hsegment), ?_⟩
    rw [hother.roll, settleDepth_roll, hroll]
  | b =>
    have hother : sameBox u (u.settleDepth .a) .b := .settleDepth _ (by decide)
    have hboth : u.settleDepths = (u.settleDepth .a).settleDepth .b := rfl
    rw [hboth]
    refine ⟨depthFollows_settleDepth (by rw [hother.roll, hroll]) (hother.soak.trans hsoak)
      (hother.segment.trans hsegment), ?_⟩
    rw [settleDepth_roll, hother.roll, hroll]

theorem State.grant_settleDepths (s : State) (p : Port) : (s.grant p).settleDepths = s.settleDepths.grant p := by
  rw [State.settleDepths, State.grant_settleDepth, State.grant_settleDepth]
  rfl

end both

/-! ### WRITE STYLE (R129, R130) -/

section writeStyle
variable {s : State} {h : Hdr} {p : Port} {w : StyleWrite}

theorem permitted_writeStyle (r : Role) : permitted r .writeStyle = true ↔ r = .station := by
  cases r <;> decide

theorem unlisted_iff (w : StyleWrite) : w.unlisted = true ↔ ∃ g bytes, w = .other g bytes := by
  cases w <;> simp [StyleWrite.unlisted]

theorem isYarn_iff (w : StyleWrite) : w.isYarn = true ↔ ∃ a b t n, w = .yarn a b t n := by
  cases w <;> simp [StyleWrite.isYarn]

theorem isBoxes_iff (w : StyleWrite) : w.isBoxes = true ↔ ∃ a b c d k, w = .boxes a b c d k := by
  cases w <;> simp [StyleWrite.isBoxes]

/-- The selected set of a port with the group written. -/
def State.withGroup (s : State) (p : Port) (w : StyleWrite) : State := { s with settings := { s.settings with
  styles := s.settings.styles.set (s.port p).selected (w.apply (s.settings.styles.get (s.port p).selected)) } }

/-- The effects of an accepted WRITE STYLE. -/
def State.styleWritten (s : State) (p : Port) (w : StyleWrite) : State :=
  if w.isBoxes && s.settings.active == (s.port p).selected then (s.withGroup p w).settleDepths else s.withGroup p w

theorem writeStyleWork_eq (p : Port) (w : StyleWrite) (s : State) : writeStyleWork p w s =
    if w.unlisted then .plain s .range
    else if s.storeBusy then .plain s .busy
    else if w.isYarn && s.settings.active == (s.port p).selected then .plain s .activeStyle
    else if !w.inRange then .plain s .range
    else .done (s.styleWritten p w) .ok [] := rfl

theorem State.grant_selected (s : State) (p : Port) : ((s.grant p).port p).selected = (s.port p).selected := by
  rw [State.grant_port_same]

theorem State.grant_styleWritten (s : State) (p : Port) (w : StyleWrite) :
    (s.grant p).styleWritten p w = (s.styleWritten p w).grant p := by
  have hgroup : (s.grant p).withGroup p w = (s.withGroup p w).grant p := by
    rw [State.withGroup, State.grant_selected]
    rfl
  simp only [State.styleWritten, hgroup, State.grant_settleDepths, State.grant_selected, State.grant_settings]
  split <;> rfl

theorem exec_writeStyle_accepted (ha : s.admits h .writeStyle) (hlisted : w.unlisted = false)
    (hidle : s.nv.flight = none) (hother : w.isYarn = true → s.settings.active ≠ (s.port h.port).selected)
    (hrange : w.inRange = true) :
    exec (.writeStyle h w) s = .next ((s.styleWritten h.port w).replied h .ok []) := by
  refine run_done ha ?_
  rw [writeStyleWork_eq, State.grant_styleWritten, State.grant_selected, if_neg (by simp [hlisted]),
    if_neg (by simp [State.storeBusy, hidle]), if_neg (by simpa using hother), if_neg (by simp [hrange])]

/-- Settles O50: the refusals in their order; then the group written, and the depth conditions evaluated anew where it
is group 4 of the active style. -/
theorem writeStyleReplacesOneGroup : Obligations.WriteStyleReplacesOneGroup := by
  refine ⟨permitted_writeStyle, fun h w s ha => ?_⟩
  intro i outcome isYarn isBoxes written
  have hyarn : w.isYarn = true ↔ isYarn := isYarn_iff w
  have hboxes : w.isBoxes = true ↔ isBoxes := isBoxes_iff w
  have refused {status : Status} (hwork : writeStyleWork h.port w (s.grant h.port) = .plain (s.grant h.port) status) :
      outcome = .next (s.replied h status []) := run_plain ha hwork
  have hselected : ((s.grant h.port).port h.port).selected = i := s.grant_selected h.port
  refine ⟨fun hw => refused (if_pos ((unlisted_iff w).mpr hw)), fun hw => ?_⟩
  have hlisted : w.unlisted = false := by
    rw [← Bool.not_eq_true, unlisted_iff]
    exact fun ⟨g, bytes, heq⟩ => hw g bytes heq
  have hunlisted : ¬w.unlisted = true := by simp [hlisted]
  have hfree (hidle : s.nv.flight = none) : ¬(s.grant h.port).storeBusy = true := by simp [State.storeBusy, hidle]
  refine ⟨fun hbusy => refused ?busy, fun hidle hy hactive => refused ?active, fun hidle hother => ?_⟩
  case busy => rw [writeStyleWork_eq, if_neg hunlisted]; exact if_pos hbusy
  case active =>
    rw [writeStyleWork_eq, if_neg hunlisted, if_neg (hfree hidle), hselected,
      if_pos (by simp [hyarn.mpr hy, hactive])]
  have hkept : w.isYarn = true → s.settings.active ≠ i := fun hy => hother (hyarn.mp hy)
  have accepted := exec_writeStyle_accepted ha hlisted hidle hkept
  refine ⟨fun hrange => refused ?_, fun hrange hplain => ?_, fun hrange hb hactive => ?_⟩
  · rw [writeStyleWork_eq, if_neg hunlisted, if_neg (hfree hidle), hselected, if_neg (by simpa using hkept),
      if_pos (by simp [hrange])]
  · refine (accepted hrange).trans ?_
    rw [State.styleWritten, if_neg (by simpa [hboxes] using hplain)]
    rfl
  · refine ⟨_, accepted hrange, ?_⟩
    rw [State.styleWritten, if_pos (by simpa [hboxes] using ⟨hb, hactive⟩)]
    exact ⟨(frame_settleDepths _).whole, settleDepths_follows (s := s) fun x => ⟨rfl, rfl, rfl⟩⟩

end writeStyle

/-! ### ACTIVATE STYLE (R131, R133) -/

section activate
variable {s : State} {h : Hdr} {b : Byte} {i : StyleIndex}

theorem permitted_activateStyle (r : Role) : permitted r .activateStyle = true ↔ r = .station := by
  cases r <;> decide

theorem lacksBoxB_iff (s : State) (i : StyleIndex) : s.lacksBoxB i = true
    ↔ s.laneBExists = false ∧ 1 ≤ (s.settings.styles.get i).yarn.ends.b := by
  simp [State.lacksBoxB]

/-- The state with the index made active and both windows emptied, the depth conditions not yet evaluated. -/
def State.restyled (s : State) (i : StyleIndex) : State := { s with
  settings := { s.settings with active := i }
  addOn := { s.addOn with windows := ⟨[], []⟩ } }

theorem switchStyle_eq (s : State) (i : StyleIndex) : s.switchStyle i = (s.restyled i).settleDepths := rfl

/-- A switch: the index active, the windows empty, and of the boxes what the evaluation writes. -/
theorem switchStyle_whole (s : State) (i : StyleIndex) : s.switchStyle i = { s with
    settings := { s.settings with active := i }
    addOn := { s.addOn with windows := ⟨[], []⟩ }
    boxes := { s.boxes with rolls := (s.switchStyle i).boxes.rolls }
    monitor := { s.monitor with soak := (s.switchStyle i).monitor.soak }
    path := { s.path with segments := (s.switchStyle i).path.segments } } :=
  (frame_settleDepths (s.restyled i)).whole

theorem switchStyle_follows (s : State) (i : StyleIndex) (x : Box) : s.depthFollows (s.switchStyle i) x
    ∧ (s.switchStyle i).roll x = { s.roll x with depth := ((s.switchStyle i).roll x).depth } :=
  settleDepths_follows (s := s) (u := s.restyled i) (fun _ => ⟨rfl, rfl, rfl⟩) x

theorem State.grant_switchStyle (s : State) (p : Port) (i : StyleIndex) :
    (s.grant p).switchStyle i = (s.switchStyle i).grant p := by
  rw [switchStyle_eq, switchStyle_eq, ← State.grant_settleDepths]
  rfl

theorem u8_toNat (hi : b.toNat = i) : u8 i = [b] := by
  rw [u8, ← hi, BitVec.ofNat_toNat, BitVec.setWidth_eq]

theorem activeMarks_settled (hp : s.pendingStyle = none) (hi : b.toNat = s.settings.active) :
    s.activeMarks = [b, 0, 1] := by
  rw [State.activeMarks, hp, u8_toNat hi]
  rfl

theorem activeMarks_pending (hp : s.pendingStyle = some i) (hi : b.toNat = i) :
    s.activeMarks = u8 s.settings.active ++ [b, 0] := by
  rw [State.activeMarks, hp, Option.map_some, Option.getD_some, u8_toNat hi, List.append_assoc]
  rfl

theorem switchStyle_active (s : State) (i : StyleIndex) : (s.switchStyle i).settings.active = i :=
  (congrArg (fun t : State => t.settings.active) (switchStyle_whole s i)).trans rfl

/-- The pending style cancelled. -/
def State.unpended (s : State) : State := { s with pendingStyle := none }

section work
variable (hi : b.toNat = i)
include hi

theorem activateStyleWork_busy (hbusy : s.nv.flight.isSome = true) : activateStyleWork b s = .plain s .busy := by
  rw [activateStyleWork, styleIndexOf_eq hi]
  exact if_pos hbusy

theorem activateStyleWork_active (hidle : s.nv.flight = none) (hactive : s.settings.active = i) :
    activateStyleWork b s = .done s.unpended .ok [b, 0, 1] := by
  have hmarks : s.unpended.activeMarks = [b, 0, 1] :=
    activeMarks_settled rfl (hi.trans (congrArg Fin.val hactive.symm))
  simp only [activateStyleWork, styleIndexOf_eq hi, State.storeBusy, hidle, hactive, if_true]
  exact congrArg (Served.done s.unpended .ok) hmarks

theorem activateStyleWork_lacking (hidle : s.nv.flight = none) (hactive : s.settings.active ≠ i)
    (hlacks : s.lacksBoxB i = true) : activateStyleWork b s = .plain s .noBoxB := by
  simp only [activateStyleWork, styleIndexOf_eq hi, State.storeBusy, hidle, if_neg hactive, hlacks]
  rfl

theorem activateStyleWork_pends {o : OpenBeam} (hidle : s.nv.flight = none) (hactive : s.settings.active ≠ i)
    (hhas : s.lacksBoxB i = false) (ho : s.beams.current = some o) : activateStyleWork b s
      = .done { s with pendingStyle := some i } .ok (u8 s.settings.active ++ [b, 0]) := by
  have hmarks : ({ s with pendingStyle := some i } : State).activeMarks = u8 s.settings.active ++ [b, 0] :=
    activeMarks_pending (s := { s with pendingStyle := some i }) rfl hi
  simp only [activateStyleWork, styleIndexOf_eq hi, State.storeBusy, hidle, if_neg hactive, hhas, ho, hmarks]
  rfl

theorem activateStyleWork_switches (hidle : s.nv.flight = none) (hactive : s.settings.active ≠ i)
    (hhas : s.lacksBoxB i = false) (hnone : s.beams.current = none) :
    activateStyleWork b s = .done (s.unpended.switchStyle i) .ok [b, 0, 1] := by
  have hmarks : (s.unpended.switchStyle i).activeMarks = [b, 0, 1] :=
    activeMarks_settled (switchStyle_pendingStyle _ i) (by rw [switchStyle_active]; exact hi)
  simp only [activateStyleWork, styleIndexOf_eq hi, State.storeBusy, hidle, if_neg hactive, hhas, hnone]
  exact congrArg (Served.done (s.unpended.switchStyle i) .ok) hmarks

end work

/-- Settles O51: the steps of R131 in their order, the switch as `switchStyle` behind the cancelled pending style. -/
theorem activateStyleSwitchesOrPends : Obligations.ActivateStyleSwitchesOrPends := by
  refine ⟨permitted_activateStyle, fun h b s ha => ?_⟩
  intro outcome
  have refused {status : Status} (hwork : activateStyleWork b (s.grant h.port) = .plain (s.grant h.port) status) :
      outcome = .next (s.replied h status []) := run_plain ha hwork
  refine ⟨fun hb => refused ?_, fun i hi => ⟨fun hbusy =>
    refused (activateStyleWork_busy (s := s.grant h.port) hi hbusy), fun hidle hactive =>
      run_done ha (activateStyleWork_active (s := s.grant h.port) hi hidle hactive), fun hidle hactive hlane hends =>
      refused (activateStyleWork_lacking (s := s.grant h.port) hi hidle hactive
        ((lacksBoxB_iff s i).mpr ⟨hlane, hends⟩)),
    fun hidle hactive hbox => ?_⟩⟩
  · rw [activateStyleWork, styleIndexOf_eq_none hb]
  have hhas : s.lacksBoxB i = false := by
    rw [← Bool.not_eq_true, lacksBoxB_iff]
    rintro ⟨hlane, hends⟩
    rcases hbox with hb | hb
    · rw [hlane] at hb
      cases hb
    · omega
  refine ⟨fun o ho => run_done ha (activateStyleWork_pends (s := s.grant h.port) hi hidle hactive hhas ho),
    fun hnone => ⟨s.unpended.switchStyle i, run_done ha ?_, switchStyle_whole s.unpended i,
      switchStyle_follows s.unpended i⟩⟩
  rw [← State.grant_switchStyle]
  exact activateStyleWork_switches (s := s.grant h.port) hi hidle hactive hhas hnone

end activate

end Sys2Proof.Machine
end

section
/-! DOFF: the beam closed, the pending style applied, the next beam opened. -/

namespace Sys2Proof.Machine

section doff
variable {s : State} {h : Hdr}

/-! ### The three steps as whole next states (R117, R132) -/

theorem doffClosed_eq (s : State) : s.doffClosed = { s with
    beams := { s.beams with
      current := none
      store := match s.beams.current with
        | some o => (s.beams.store ++ [{ o.record with closeReason := some .doff }]).drop (s.beams.store.length - 3)
        | none => s.beams.store }
    ports := withEvents s.ports (flagIf s.beams.current.isSome .beamClosed) } := by
  cases ho : s.beams.current with
  | none =>
    simp only [State.doffClosed, ho, Option.isSome_none]
    rw [flagIf, if_neg (by decide), withEvents_zero]
    exact congrArg (fun o => { s with beams := { s.beams with current := o } }) ho
  | some o =>
    simp only [State.doffClosed, ho, State.closeBeam, storeBeam_eq]
    rfl

/-- The index that is active behind a doff. -/
def State.activeBehind (s : State) : StyleIndex :=
  match s.pendingStyle with
  | some i => if s.laneBExists = false ∧ 1 ≤ (s.settings.styles.get i).yarn.ends.b then s.settings.active else i
  | none => s.settings.active

theorem applyPending_none (hp : s.pendingStyle = none) : s.applyPending = s := by simp only [State.applyPending, hp]

theorem applyPending_some {i : StyleIndex} (hp : s.pendingStyle = some i) : s.applyPending
    = if s.laneBExists = false ∧ 1 ≤ (s.settings.styles.get i).yarn.ends.b then s.unpended
      else s.unpended.switchStyle i := by
  simp only [State.applyPending, hp, lacksBoxB_iff]
  rfl

/-- A pending style applied or discarded: the active index, none pending, and of windows and boxes what a switch
writes. -/
theorem applyPending_whole (s : State) : s.applyPending = { s with
    pendingStyle := none
    settings := { s.settings with active := s.activeBehind }
    addOn := { s.addOn with windows := s.applyPending.addOn.windows }
    boxes := { s.boxes with rolls := s.applyPending.boxes.rolls }
    monitor := { s.monitor with soak := s.applyPending.monitor.soak }
    path := { s.path with segments := s.applyPending.path.segments } } := by
  have hwhole := (frame_applyPending s).whole
  have hpending : s.applyPending.pendingStyle = none ∧ s.applyPending.settings.active = s.activeBehind := by
    cases hp : s.pendingStyle with
    | none => simp only [applyPending_none hp, State.activeBehind, hp, and_self]
    | some i =>
      rw [applyPending_some hp, State.activeBehind, hp]
      dsimp only
      split
      · exact ⟨rfl, rfl⟩
      · exact ⟨switchStyle_pendingStyle _ i, switchStyle_active _ i⟩
  obtain ⟨hnone, hactive⟩ := hpending
  rw [← hactive, ← hnone]
  exact hwhole

theorem openFromPlan_eq (s : State) (r : BeamRecord) : s.openFromPlan r = { s with
    beams := { s.beams with
      current := some ⟨.opened, r, s.compares r.target⟩
      plan := s.beams.plan.drop 1 }
    ports := withEvents s.ports (flagIf (decide (s.beams.plan.length ≤ 2)) .planLow) } := by
  have hlow : decide ((s.beams.plan.drop 1).length ≤ 1) = decide (s.beams.plan.length ≤ 2) := by
    rw [List.length_drop, decide_eq_decide]
    omega
  rw [State.openFromPlan, hlow, State.postIf_flagIf]
  rfl

/-- The state behind the closing and the pending style. -/
abbrev State.doffStyled (s : State) : State := s.doffClosed.applyPending

/-- A pending style applied to a state of which the beams and the ports alone are new. -/
theorem applyPending_over {c : State} {beams : BeamUnit} {ports : PerPort PortUnit}
    (hc : c = { s with beams := beams, ports := ports }) : c.applyPending = { s with
      beams := beams
      pendingStyle := none
      settings := { s.settings with active := s.activeBehind }
      addOn := { s.addOn with windows := c.applyPending.addOn.windows }
      boxes := { s.boxes with rolls := c.applyPending.boxes.rolls }
      monitor := { s.monitor with soak := c.applyPending.monitor.soak }
      path := { s.path with segments := c.applyPending.path.segments }
      ports := ports } := by
  subst hc
  exact applyPending_whole _

/-- The flags a doff posts to every port. -/
def State.doffFlags (s : State) : EventSet :=
  flagIf s.beams.current.isSome .beamClosed ||| flagIf (decide (s.beams.plan.length ≤ 2)) .planLow

/-- The store behind a doff. -/
def State.storeBehind (s : State) : List BeamRecord :=
  match s.beams.current with
  | some o => (s.beams.store ++ [{ o.record with closeReason := some .doff }]).drop (s.beams.store.length - 3)
  | none => s.beams.store

/-- The effects of a doff that opens the beam of a record. -/
theorem doffed_styled (s : State) (r : BeamRecord) : s.doffStyled.openFromPlan r = { s with
    beams := { s.beams with
      current := some ⟨.opened, r, s.doffStyled.compares r.target⟩
      plan := s.beams.plan.drop 1
      store := s.storeBehind }
    pendingStyle := none
    settings := { s.settings with active := s.activeBehind }
    addOn := { s.addOn with windows := s.doffStyled.addOn.windows }
    boxes := { s.boxes with rolls := s.doffStyled.boxes.rolls }
    monitor := { s.monitor with soak := s.doffStyled.monitor.soak }
    path := { s.path with segments := s.doffStyled.path.segments }
    ports := withEvents s.ports s.doffFlags } := by
  have hstyled := applyPending_over (doffClosed_eq s)
  rw [openFromPlan_eq, State.doffFlags, ← withEvents_withEvents]
  generalize hr : some (OpenBeam.mk .opened r (s.doffStyled.compares r.target)) = current
  exact congrArg (fun u : State => { u with
    beams := { u.beams with current := current, plan := u.beams.plan.drop 1 }
    ports := withEvents u.ports (flagIf (decide (u.beams.plan.length ≤ 2)) .planLow) }) hstyled

theorem doffStyled_compares (s : State) (target : Nat) : s.doffStyled.compares target =
    comparesFor target (s.settings.styles.get s.activeBehind).drying.slowDistance s.settings.machine.beam :=
  (congrArg (fun u : State => u.compares target) (applyPending_over (doffClosed_eq s))).trans rfl

/-! ### What the pending style writes -/

theorem doffClosed_kept (s : State) : s.doffClosed.addOn = s.addOn ∧ s.doffClosed.boxes = s.boxes
    ∧ s.doffClosed.monitor = s.monitor ∧ s.doffClosed.path = s.path := by
  rw [doffClosed_eq]
  exact ⟨rfl, rfl, rfl, rfl⟩

theorem openFromPlan_kept (s : State) (r : BeamRecord) : (s.openFromPlan r).addOn = s.addOn
    ∧ (s.openFromPlan r).boxes = s.boxes ∧ (s.openFromPlan r).monitor = s.monitor
    ∧ (s.openFromPlan r).path = s.path ∧ (s.openFromPlan r).settings = s.settings := by
  rw [openFromPlan_eq]
  exact ⟨rfl, rfl, rfl, rfl, rfl⟩

theorem doffClosed_pending (s : State) : s.doffClosed.pendingStyle = s.pendingStyle
    ∧ s.doffClosed.activeBehind = s.activeBehind ∧ s.doffClosed.settings = s.settings := by
  rw [doffClosed_eq]
  exact ⟨rfl, rfl, rfl⟩

/-- No pending style, or one discarded. -/
theorem applyPending_unswitched (h : s.pendingStyle ≠ some s.activeBehind) :
    s.applyPending.addOn = s.addOn ∧ s.applyPending.boxes = s.boxes ∧ s.applyPending.monitor = s.monitor
      ∧ s.applyPending.path = s.path := by
  cases hp : s.pendingStyle with
  | none => rw [applyPending_none hp]; exact ⟨rfl, rfl, rfl, rfl⟩
  | some i =>
    rw [applyPending_some hp]
    split
    · exact ⟨rfl, rfl, rfl, rfl⟩
    · next hhas =>
      refine absurd ?_ h
      simp only [State.activeBehind, hp, if_neg hhas]

theorem applyPending_switched (h : s.pendingStyle = some s.activeBehind) (hnew : s.activeBehind ≠ s.settings.active) :
    s.applyPending = s.unpended.switchStyle s.activeBehind := by
  rw [applyPending_some h]
  refine if_neg fun hlacks => hnew ?_
  rw [State.activeBehind, h]
  exact if_pos hlacks

theorem doffed_unswitched (r : BeamRecord) (h : s.pendingStyle ≠ some s.activeBehind) :
    (s.doffStyled.openFromPlan r).addOn = s.addOn ∧ (s.doffStyled.openFromPlan r).boxes = s.boxes
      ∧ (s.doffStyled.openFromPlan r).monitor = s.monitor ∧ (s.doffStyled.openFromPlan r).path = s.path := by
  obtain ⟨hpending, hactive, -⟩ := doffClosed_pending s
  obtain ⟨haddOn, hboxes, hmonitor, hpath⟩ := applyPending_unswitched (s := s.doffClosed) (by rwa [hpending, hactive])
  obtain ⟨haddOn', hboxes', hmonitor', hpath'⟩ := doffClosed_kept s
  obtain ⟨haddOn'', hboxes'', hmonitor'', hpath'', -⟩ := openFromPlan_kept s.doffStyled r
  exact ⟨haddOn''.trans (haddOn.trans haddOn'), hboxes''.trans (hboxes.trans hboxes'),
    hmonitor''.trans (hmonitor.trans hmonitor'), hpath''.trans (hpath.trans hpath')⟩

theorem doffed_switched (r : BeamRecord) (h : s.pendingStyle = some s.activeBehind)
    (hnew : s.activeBehind ≠ s.settings.active) : (s.doffStyled.openFromPlan r).addOn.windows = ⟨[], []⟩
      ∧ ∀ x, s.depthFollows (s.doffStyled.openFromPlan r) x ∧ (s.doffStyled.openFromPlan r).roll x
        = { s.roll x with depth := ((s.doffStyled.openFromPlan r).roll x).depth } := by
  obtain ⟨hpending, hactive, hsettings⟩ := doffClosed_pending s
  obtain ⟨-, hboxes', hmonitor', hpath'⟩ := doffClosed_kept s
  obtain ⟨haddOn, hboxes, hmonitor, hpath, hstays⟩ := openFromPlan_kept s.doffStyled r
  have hswitch : s.doffStyled = s.doffClosed.unpended.switchStyle s.activeBehind := by
    rw [← hactive]
    exact applyPending_switched (by rw [hpending, hactive]; exact h) (by rw [hactive, hsettings]; exact hnew)
  refine ⟨?_, fun x => ?_⟩
  · rw [haddOn, hswitch, switchStyle_whole]
  · obtain ⟨hfollows, hroll⟩ := switchStyle_follows s.doffClosed.unpended s.activeBehind x
    have hbefore : sameBox s s.doffClosed.unpended x :=
      ⟨congrArg (fun b : BoxUnit => b.rolls.get x) hboxes', congrArg (fun m : MonitorUnit => m.soak.get x) hmonitor',
        congrArg (fun q : PathUnit => q.segments.get x) hpath'⟩
    have hafter : sameBox s.doffStyled (s.doffStyled.openFromPlan r) x :=
      ⟨congrArg (fun b : BoxUnit => b.rolls.get x) hboxes, congrArg (fun m : MonitorUnit => m.soak.get x) hmonitor,
        congrArg (fun q : PathUnit => q.segments.get x) hpath⟩
    rw [← hswitch] at hfollows hroll
    exact ⟨hafter.depthFollows hstays (depthFollows_left hbefore hfollows), by rw [hafter.roll, hroll, hbefore.roll]⟩

/-- The state a doff leaves, as what it writes of the state before it. -/
theorem doffed_whole {e : State} {r : BeamRecord} (he : s.doffStyled.openFromPlan r = e) : e = { s with
    beams := { s.beams with
      current := some ⟨.opened, r,
        comparesFor r.target (s.settings.styles.get s.activeBehind).drying.slowDistance s.settings.machine.beam⟩
      plan := s.beams.plan.drop 1
      store := s.storeBehind }
    pendingStyle := none
    settings := { s.settings with active := s.activeBehind }
    addOn := { s.addOn with windows := e.addOn.windows }
    boxes := { s.boxes with rolls := e.boxes.rolls }
    monitor := { s.monitor with soak := e.monitor.soak }
    path := { s.path with segments := e.path.segments }
    ports := withEvents s.ports s.doffFlags } := by
  obtain ⟨haddOn, hboxes, hmonitor, hpath, -⟩ := openFromPlan_kept s.doffStyled r
  rw [he] at haddOn hboxes hmonitor hpath
  rw [haddOn, hboxes, hmonitor, hpath, ← doffStyled_compares, ← he]
  exact doffed_styled s r

/-! ### DOFF (R116, R117) -/

theorem State.grant_doffClosed (s : State) (p : Port) : (s.grant p).doffClosed = s.doffClosed.grant p := by
  unfold State.doffClosed
  rw [State.grant_beams]
  split
  · exact s.grant_closeBeam p _ _
  · rfl

theorem State.grant_applyPending (s : State) (p : Port) : (s.grant p).applyPending = s.applyPending.grant p := by
  cases hp : s.pendingStyle with
  | none => rw [applyPending_none hp, applyPending_none (s := s.grant p) hp]
  | some i =>
    rw [applyPending_some hp, applyPending_some (s := s.grant p) hp]
    by_cases hlacks : s.laneBExists = false ∧ 1 ≤ (s.settings.styles.get i).yarn.ends.b
    · rw [if_pos hlacks]
      exact if_pos hlacks
    · rw [if_neg hlacks, ← State.grant_switchStyle]
      exact if_neg hlacks

theorem State.grant_openFromPlan (s : State) (p : Port) (r : BeamRecord) :
    (s.grant p).openFromPlan r = (s.openFromPlan r).grant p := by
  rw [State.openFromPlan, State.openFromPlan, ← State.grant_postIf]
  rfl

/-- The beam that a doff opens: the plan's head, or the closed beam's successor. -/
theorem nextBeam_some {current : Option OpenBeam} {plan : List PlanEntry} (style : StyleIndex)
    (hplan : current = none → plan ≠ []) : ∃ number target cut unplanned,
      nextBeam plan (current.map OpenBeam.record) style = some (.fresh number target cut unplanned style)
      ∧ (∀ entry rest, plan = entry :: rest →
          number = entry.number ∧ target = entry.target * 1000 ∧ cut = entry.cut * 100 ∧ unplanned = false)
      ∧ (∀ o, plan = [] → current = some o →
          number = (if o.record.number < 65535 then o.record.number + 1 else 1)
          ∧ target = o.record.target ∧ cut = o.record.cutLength ∧ unplanned = true) := by
  cases plan with
  | cons entry rest =>
    refine ⟨_, _, _, _, rfl, fun e r he => ?_, nofun⟩
    cases he
    exact ⟨rfl, rfl, rfl, rfl⟩
  | nil =>
    cases current with
    | none => exact absurd rfl (hplan rfl)
    | some o =>
      refine ⟨_, _, _, _, rfl, nofun, fun o' _ ho => ?_⟩
      cases ho
      exact ⟨rfl, rfl, rfl, rfl⟩

theorem doffStyled_beams (s : State) : s.doffStyled.beams.plan = s.beams.plan
    ∧ s.doffStyled.settings.active = s.activeBehind := by
  have h := applyPending_over (doffClosed_eq s)
  exact ⟨(congrArg (fun u : State => u.beams.plan) h).trans rfl,
    (congrArg (fun u : State => u.settings.active) h).trans rfl⟩

/-- DOFF as a command, once the checks of R116 are passed. -/
theorem exec_doff_accepted {r : BeamRecord} (ha : s.admits h .doff) (hstop : s.line.lineState = .stopped)
    (hwound : ∀ o, s.beams.current = some o → o.record.wound ≠ 0) (hplan : s.beams.current = none → s.beams.plan ≠ [])
    (hr : nextBeam s.beams.plan (s.beams.current.map OpenBeam.record) s.activeBehind = some r) :
    exec (.doff h) s = .next ((s.doffStyled.openFromPlan r).replied h .ok (doffData r)) := by
  obtain ⟨hplan', hactive⟩ := doffStyled_beams s
  refine run_done ha ?_
  rw [doffWork_eq, State.grant_doffClosed, State.grant_applyPending, ← State.grant_openFromPlan, State.grant_beams,
    State.grant_beams, State.grant_settings, State.grant_line, hplan', hactive, hr, if_neg (not_not.mpr hstop),
    if_neg, if_neg]
  · rintro ⟨hnone, hempty⟩
    exact hplan (Option.isNone_iff_eq_none.mp hnone) hempty
  · intro hany
    cases ho : s.beams.current with
    | none => simp [ho] at hany
    | some o => exact hwound o ho (by simpa [ho] using hany)

theorem doffWork_moving (hmove : s.line.lineState ≠ .stopped) : doffWork s = .plain s .notStopped := if_pos hmove

theorem doffWork_emptyBeam {o : OpenBeam} (hstop : s.line.lineState = .stopped) (ho : s.beams.current = some o)
    (hwound : o.record.wound = 0) : doffWork s = .plain s .emptyBeam := by
  rw [doffWork_eq, if_neg (not_not.mpr hstop), if_pos (by simp [ho, hwound])]

theorem doffWork_planEmpty (hstop : s.line.lineState = .stopped) (hidle : s.beams.current = none)
    (hplan : s.beams.plan = []) : doffWork s = .plain s .planEmpty := by
  rw [doffWork_eq, if_neg (not_not.mpr hstop), if_neg (by simp [hidle]), if_pos (by simp [hidle, hplan])]

theorem withEvents_eventsOnly {t : State} {e : EventSet} (h : t.ports = withEvents s.ports e) : s.eventsOnly t := by
  intro p
  simp [State.port, h]

theorem doffFlags_getLsbD (s : State) (i : Nat) : s.doffFlags.getLsbD i = true
    ↔ (i = 0 ∧ s.beams.current.isSome = true) ∨ (i = 1 ∧ s.beams.plan.length ≤ 2) := by
  rw [State.doffFlags, BitVec.getLsbD_or, Bool.or_eq_true, flagIf_getLsbD, flagIf_getLsbD, decide_eq_true_iff]
  rfl

/-- Settles O45: the refusals in their order; then the closed beam, the pending style and the next beam, one whole
  next
state. -/
theorem doffClosesAndOpensBeams : Obligations.DoffClosesAndOpensBeams := by
  refine fun h s ha => ⟨fun hmove => run_plain ha (doffWork_moving (s := s.grant h.port) hmove),
    fun hstop ⟨o, ho, hwound⟩ => run_plain ha (doffWork_emptyBeam (s := s.grant h.port) hstop ho hwound),
    fun hstop hidle hplan => run_plain ha (doffWork_planEmpty (s := s.grant h.port) hstop hidle hplan),
    fun hstop hwound hplan => ?_⟩
  intro active slowDistance lead
  obtain ⟨number, target, cut, unplanned, hr, hhead, hnext⟩ := nextBeam_some s.activeBehind hplan
  have hexec := exec_doff_accepted ha hstop hwound hplan hr
  have hun := doffed_unswitched (s := s) (.fresh number target cut unplanned s.activeBehind)
  have hsw := doffed_switched (s := s) (.fresh number target cut unplanned s.activeBehind)
  generalize he : s.doffStyled.openFromPlan (.fresh number target cut unplanned s.activeBehind) = e at hexec hun hsw
  have hwhole := doffed_whole he
  have hports : e.ports = withEvents s.ports s.doffFlags := (congrArg State.ports hwhole).trans rfl
  have hbeams : e.beams = _ := congrArg State.beams hwhole
  refine ⟨e, number, target, cut, unplanned, hexec, hhead, hnext, ?_, ?_, hun, hsw, withEvents_eventsOnly hports,
    fun p i => ?_⟩
  · exact hbeams
  · rw [hports, hbeams]
    exact hwhole
  · rw [State.port, hports, withEvents_get, BitVec.getLsbD_or, Bool.or_eq_true, doffFlags_getLsbD]
    rfl

end doff

end Sys2Proof.Machine
end

section
/-! A change of LINE STATE and its announcements: what leaving STOPPED makes of the lanes, the zones, the soak
  channels
and the rolls. -/

namespace Sys2Proof.Machine

/-! ### Zone after zone over a lane (R21) -/

section zones
variable {s t : State}

theorem Frame.slots_settings (h : Frame [.slots] s t) : t.settings = s.settings :=
  (congrArg State.settings h.whole).trans rfl

theorem Frame.slots_monitor (h : Frame [.slots] s t) : t.monitor = s.monitor :=
  (congrArg State.monitor h.whole).trans rfl

theorem zoneHolds_of_settings (h : t.settings = s.settings) (z : Zone) (i : Nat) : t.zoneHolds z i = s.zoneHolds z i
  :=
  congrArg (fun g : Settings => ({ s with settings := g } : State).zoneHolds z i) h

/-- Work on zone after zone that changes slots alone, and the record at a place of one lane as a function of the place
tells, makes of that record what the functions make of it one after another. -/
theorem foldl_slots {α : Type} {view : State → List (Option α)} {f : State → Zone → State} {g : Zone → Nat → α → α}
    (hf : ∀ t z, Frame [.slots] s t → Frame [.slots] t (f t z)
      ∧ ∀ i : Nat, (view (f t z))[i]? = (view t)[i]?.map fun slot => slot.map (g z i))
    (zs : List Zone) (ht : Frame [.slots] s t) (i : Nat) :
    (view (zs.foldl f t))[i]? = (view t)[i]?.map fun slot => slot.map fun r => zs.foldl (fun r z => g z i r) r := by
  induction zs generalizing t with
  | nil => simp
  | cons z zs ih =>
    obtain ⟨hframe, hview⟩ := hf t z ht
    rw [List.foldl_cons, ih (ht.trans hframe), hview, Option.map_map]
    simp [Function.comp_def]

end zones

/-! ### The dwell of a stop (R74) -/

section dwell
variable {s t : State}

/-- A dwell with the accumulator of a stop added, at most 65,535. -/
def dwellAfter (dwell accumulator : Nat) : Nat :=
  if accumulator = 0 then dwell else min (dwell + accumulator) 65535

/-- What the stop makes of the record of lane A or B at a place, one zone looked at. -/
def State.laneDwelt (s : State) (x : Box) (z : Zone) (i : Nat) (r : LaneRecord) : LaneRecord :=
  if z = laneZone x ∧ s.zoneHolds z i = true then
    { r with dwell := dwellAfter r.dwell (s.monitor.zones.get z).accumulator } else r

/-- What the stop makes of the record of the main lane at a place, one zone looked at. -/
def State.mainDwelt (s : State) (z : Zone) (i : Nat) (r : MainRecord) : MainRecord :=
  if z ∈ mainZones ∧ s.zoneHolds z i = true then
    { r with dwell := dwellAfter r.dwell (s.monitor.zones.get z).accumulator } else r

theorem LaneRecord.add_dwell {d : Nat} (hd : 0 < d) (r : LaneRecord) :
    r.add 0 d = { r with dwell := dwellAfter r.dwell d } := by
  rw [LaneRecord.add, dwellAfter, if_neg (Nat.ne_of_gt hd), show r.causes ||| 0 = r.causes from BitVec.or_zero]
  rfl

theorem MainRecord.add_dwell {d : Nat} (hd : 0 < d) (r : MainRecord) :
    r.add 0 d = { r with dwell := dwellAfter r.dwell d } := by
  rw [MainRecord.add, dwellAfter, if_neg (Nat.ne_of_gt hd), show r.causes ||| 0 = r.causes from BitVec.or_zero]
  rfl

theorem applyDwell_lane (s : State) (z : Zone) (x : Box) (i : Nat) : ((s.applyDwell z).lane x)[i]?
    = (s.lane x)[i]?.map fun slot => slot.map (s.laneDwelt x z i) := by
  unfold State.applyDwell
  dsimp only
  split
  · next hacc =>
    rw [State.addToZone_lane, markWhere_getElem?]
    simp only [LaneRecord.add_dwell hacc, Bool.and_eq_true, decide_eq_true_iff]
    rfl
  · next hacc =>
    have hzero : (s.monitor.zones.get z).accumulator = 0 := by omega
    have hsame : s.laneDwelt x z i = id := funext fun r => by simp [State.laneDwelt, dwellAfter, hzero]
    simp [hsame]

theorem applyDwell_main (s : State) (z : Zone) (i : Nat) : ((s.applyDwell z).path.main)[i]?
    = s.path.main[i]?.map fun slot => slot.map (s.mainDwelt z i) := by
  unfold State.applyDwell
  dsimp only
  split
  · next hacc =>
    rw [State.addToZone_main, markWhere_getElem?]
    simp only [MainRecord.add_dwell hacc, Bool.and_eq_true, decide_eq_true_iff]
    rfl
  · next hacc =>
    have hzero : (s.monitor.zones.get z).accumulator = 0 := by omega
    have hsame : s.mainDwelt z i = id := funext fun r => by simp [State.mainDwelt, dwellAfter, hzero]
    simp [hsame]

theorem laneDwelt_kept (h : Frame [.slots] s t) (x : Box) : t.laneDwelt x = s.laneDwelt x := by
  funext z i r
  rw [State.laneDwelt, zoneHolds_of_settings h.slots_settings, h.slots_monitor]
  rfl

theorem mainDwelt_kept (h : Frame [.slots] s t) : t.mainDwelt = s.mainDwelt := by
  funext z i r
  rw [State.mainDwelt, zoneHolds_of_settings h.slots_settings, h.slots_monitor]
  rfl

/-- The state with the dwell of the stop applied in every zone. Irreducible: unfolding it is work over every zone. -/
@[irreducible] def State.dwelt (s : State) : State := Zone.all.foldl State.applyDwell s

theorem dwelt_eq (s : State) : s.dwelt = Zone.all.foldl State.applyDwell s := by rw [State.dwelt]

theorem frame_dwelt (s : State) : Frame [.slots] s s.dwelt := by
  rw [dwelt_eq]
  exact .foldl (fun z t => frame_applyDwell t z) _ s

theorem dwelt_lane (s : State) (x : Box) (i : Nat) : (s.dwelt.lane x)[i]?
    = (s.lane x)[i]?.map fun slot => slot.map fun r =>
      if s.zoneHolds (laneZone x) i then
        { r with dwell := dwellAfter r.dwell (s.monitor.zones.get (laneZone x)).accumulator } else r := by
  have h := foldl_slots (view := (State.lane · x)) (f := State.applyDwell) (g := s.laneDwelt x) (s := s)
    (fun t z ht => ⟨frame_applyDwell t z, fun i => by rw [applyDwell_lane, laneDwelt_kept ht]⟩) Zone.all (.refl _ s) i
  rw [dwelt_eq, h]
  refine congrArg (fun f => (s.lane x)[i]?.map fun slot => slot.map f) (funext fun r => ?_)
  cases x <;> simp [Zone.all, State.laneDwelt]

theorem dwelt_main (s : State) (i : Nat) : s.dwelt.path.main[i]?
    = s.path.main[i]?.map fun slot => slot.map fun r => mainZones.foldl (fun r z => if s.zoneHolds z i then
        { r with dwell := dwellAfter r.dwell (s.monitor.zones.get z).accumulator } else r) r := by
  have h := foldl_slots (view := fun t => t.path.main) (f := State.applyDwell) (g := s.mainDwelt) (s := s)
    (fun t z ht => ⟨frame_applyDwell t z, fun i => by rw [applyDwell_main, mainDwelt_kept ht]⟩) Zone.all (.refl _ s) i
  rw [dwelt_eq, h]
  refine congrArg (fun f => s.path.main[i]?.map fun slot => slot.map f) (funext fun r => ?_)
  simp [Zone.all, State.mainDwelt]

end dwell

/-! ### Auto-lower and crawl (R65, R99) -/

section announce
variable {s : State} {x y : Box}

/-- A cause added to the open segment of each box in use. -/
theorem bothCauses_segment (s : State) (c : CauseSet) (x : Box) :
    ((s.addCausesInUse .a c).addCausesInUse .b c).segment x = { s.segment x with
      causes := (s.segment x).causes ||| (if s.inUse x = true then c else 0) } := by
  rw [State.addCausesInUse_eq, State.addCausesInUse_eq]
  cases x <;> simp [State.segment_setSegment_ne]

theorem markCrawl_segment (s : State) (x : Box) : s.markCrawl.segment x = { s.segment x with
    causes := (s.segment x).causes ||| (if s.inUse x = true then Cause.crawl.set else 0) } :=
  bothCauses_segment s _ x

theorem frame_markCrawl (s : State) : Frame [.causes] s s.markCrawl :=
  (frame_addCausesInUse s .a _).trans (frame_addCausesInUse _ .b _)

/-- A roll that leaving STOPPED with auto-dip set begins to lower. -/
abbrev State.lowers (s : State) (x : Box) : Prop := s.inUse x = true
  ∧ ((s.roll x).state = .idle ∧ (s.roll x).position + 10 < s.dip x ∨ (s.roll x).state = .autoLift)

theorem autoLowerRoll_lowers (h : s.lowers x) :
    s.autoLowerRoll x = s.enterRoll x (.autoLower (min (s.dip x) s.actuators.travel)) := by
  obtain ⟨huse, ⟨hstate, hbelow⟩ | hstate⟩ := h
  · have hdepth : belowDepth (s.roll x).position (s.dip x) = true := decide_eq_true hbelow
    simp only [State.autoLowerRoll, if_pos huse, hstate, if_pos hdepth]
    rfl
  · simp only [State.autoLowerRoll, if_pos huse, hstate]
    rfl

theorem autoLowerRoll_stays (h : ¬s.lowers x) : s.autoLowerRoll x = s := by
  unfold State.autoLowerRoll
  dsimp only
  split
  · next huse =>
    split
    · next hstate =>
      refine if_neg fun hdepth => h ⟨huse, .inl ⟨hstate, ?_⟩⟩
      exact of_decide_eq_true hdepth
    · next hstate => exact absurd ⟨huse, .inr hstate⟩ h
    all_goals rfl
  · rfl

theorem autoLowerRoll_roll (s : State) (x : Box) : (s.autoLowerRoll x).roll x = if s.lowers x then
    { s.roll x with state := .autoLower (min (s.dip x) s.actuators.travel), stepPhase := 0 } else s.roll x := by
  by_cases h : s.lowers x
  · rw [autoLowerRoll_lowers h, if_pos h, State.enterRoll_eq, State.roll_setRoll_same]
  · rw [autoLowerRoll_stays h, if_neg h]

theorem autoLowerRoll_other (s : State) (h : y ≠ x) : sameBox s (s.autoLowerRoll x) y := by
  by_cases hl : s.lowers x
  · rw [autoLowerRoll_lowers hl]
    exact .setRoll s _ h
  · rw [autoLowerRoll_stays hl]
    exact .refl s y

theorem lowers_congr {t : State} (hroll : t.roll x = s.roll x) (hsettings : t.settings = s.settings) :
    t.lowers x ↔ s.lowers x := by
  have hdip : t.dip x = s.dip x := congrArg (fun g : Settings => ({ s with settings := g } : State).dip x) hsettings
  rw [State.lowers, hroll, hdip, inUse_of_settings hsettings]

/-- Both rolls at the announcement, each as its own channel asks. -/
theorem bothLower_roll (s : State) (x : Box) : ((s.autoLowerRoll .a).autoLowerRoll .b).roll x = if s.lowers x then
    { s.roll x with state := .autoLower (min (s.dip x) s.actuators.travel), stepPhase := 0 } else s.roll x := by
  cases x with
  | a => rw [(autoLowerRoll_other _ (x := .b) (y := .a) (by decide)).roll, autoLowerRoll_roll]
  | b =>
    have hroll := (autoLowerRoll_other s (x := .a) (y := .b) (by decide)).roll
    have hsettings : (s.autoLowerRoll .a).settings = s.settings :=
      (congrArg State.settings (frame_autoLowerRoll s .a).whole).trans rfl
    have hdip : (s.autoLowerRoll .a).dip .b = s.dip .b :=
      congrArg (fun g : Settings => ({ s with settings := g } : State).dip .b) hsettings
    have hactuators : (s.autoLowerRoll .a).actuators = s.actuators :=
      congrArg (fun g : Settings => g.machine.actuators) hsettings
    have hlowers := lowers_congr hroll hsettings
    by_cases h : s.lowers .b
    · rw [autoLowerRoll_lowers (hlowers.mpr h), if_pos h, State.enterRoll_eq, State.roll_setRoll_same, hroll, hdip,
        hactuators]
    · rw [autoLowerRoll_stays (fun hl => h (hlowers.mp hl)), if_neg h, hroll]

/-! ### The announcements together (R8) -/

/-- The state with LINE STATE alone changed. -/
def State.inLineState (s : State) (new : LineState) : State := { s with line := { s.line with lineState := new } }

/-- The Monitor's items when LINE STATE leaves STOPPED. -/
def MonitorUnit.leftStop (m : MonitorUnit) : MonitorUnit := { m with
  interval := none
  soak := ⟨m.soak.a.leaveStop, m.soak.b.leaveStop⟩
  zones := m.zones.mapWith fun _ c => c.leaveStop }

/-- The Monitor's share when LINE STATE leaves STOPPED. -/
def State.leftStop (s : State) : State := { s.dwelt with monitor := s.monitor.leftStop }

theorem monitorLeaveStop_eq (s : State) : s.monitorLeaveStop = s.leftStop := by
  rw [State.leftStop, ← (frame_dwelt s).slots_monitor, dwelt_eq]
  unfold State.monitorLeaveStop MonitorUnit.leftStop
  rfl

/-- The Monitor's share when the sheet begins to move. -/
def State.monitorMoves (s : State) (new : LineState) : State :=
  if new = .crawl then s.leftStop.markCrawl else s.leftStop

/-- The Box Control Unit's share when the sheet begins to move. -/
def State.boxesMove (s : State) : State :=
  if s.actuators.autoDip = true then (s.liftStopped.autoLowerRoll .a).autoLowerRoll .b else s.liftStopped

theorem beamAnnounce_moving (s : State) {new : LineState} (h : new ≠ .stopped) : s.beamAnnounce new = s := by
  cases ho : s.beams.current <;> cases new <;> simp only [State.beamAnnounce, ho]
  exact absurd rfl h

theorem monitorAnnounce_leaving (s : State) {new : LineState} (h : new ≠ .stopped) :
    s.monitorAnnounce .stopped new = s.monitorMoves new := by
  cases new with
  | stopped => exact absurd rfl h
  | crawl | run => simp [State.monitorAnnounce, State.monitorMoves, monitorLeaveStop_eq]

theorem changeLineState_leaving {new : LineState} (h : s.line.lineState = .stopped) (hnew : new ≠ .stopped) :
    s.changeLineState new = ((s.inLineState new).monitorMoves new).boxesMove := by
  rw [State.changeLineState, if_neg (by rw [h]; exact hnew)]
  refine (beamAnnounce_moving _ hnew).trans ?_
  rw [State.boxesAnnounce, if_neg hnew, if_pos h, h, monitorAnnounce_leaving _ hnew]
  rfl

theorem frame_leftStop (s : State) : Frame [.slots, .interval, .soak, .zones] s s.leftStop := by
  rw [← monitorLeaveStop_eq]
  exact frame_monitorLeaveStop s

theorem frame_monitorMoves (s : State) (new : LineState) : Frame [.causes] s.leftStop (s.monitorMoves new) :=
  .ite (fun _ => frame_markCrawl _) fun _ => .refl _ _

theorem frame_boxesMove (s : State) : Frame [.autoLift, .rolls] s s.boxesMove := by
  refine Frame.ite (fun _ => ?_) fun _ => (frame_withAutoLift s none).mono (by decide)
  exact (frame_withAutoLift s none).seq ((frame_autoLowerRoll _ .a).trans (frame_autoLowerRoll _ .b)) (by decide)

theorem boxesMove_autoLift (s : State) : s.boxesMove.boxes.autoLift = none := by
  unfold State.boxesMove
  split
  · exact ((frame_autoLowerRoll _ .a).trans (frame_autoLowerRoll _ .b)).2 .autoLift (by decide)
  · rfl

theorem boxesMove_roll (s : State) (x : Box) : s.boxesMove.roll x =
    if s.actuators.autoDip = true ∧ s.lowers x then
      { s.roll x with state := .autoLower (min (s.dip x) s.actuators.travel), stepPhase := 0 } else s.roll x := by
  unfold State.boxesMove
  by_cases hdip : s.actuators.autoDip = true
  · rw [if_pos hdip]
    refine (bothLower_roll s.liftStopped x).trans ?_
    by_cases hl : s.lowers x
    · exact (if_pos hl).trans (if_pos ⟨hdip, hl⟩).symm
    · exact (if_neg hl).trans (if_neg fun h => hl h.2).symm
  · rw [if_neg hdip, if_neg fun h => hdip h.1]
    rfl

theorem monitorMoves_segment (s : State) (new : LineState) (x : Box) :
    (s.monitorMoves new).segment x = { s.segment x with
      causes := (s.segment x).causes ||| (if new = .crawl ∧ s.inUse x = true then Cause.crawl.set else 0) } := by
  have hleft : s.leftStop.segment x = s.segment x := (sameBox.of_frame (frame_dwelt s) (by decide) x).segment
  have huse : s.leftStop.inUse x = s.inUse x := inUse_of_settings (frame_dwelt s).slots_settings
  unfold State.monitorMoves
  by_cases hnew : new = .crawl
  · rw [if_pos hnew, markCrawl_segment, hleft, huse]
    simp [hnew]
  · rw [if_neg hnew, hleft]
    simp [hnew]

/-- What leaving STOPPED makes of the card, unit by unit, over the state in the new LINE STATE. -/
structure leftStopped (u t : State) (new : LineState) : Prop where
  frame : Frame [.slots, .interval, .soak, .zones, .causes, .autoLift, .rolls] u t
  monitor : t.monitor = u.monitor.leftStop
  lanes : t.path.lanes = u.dwelt.path.lanes
  main : t.path.main = u.dwelt.path.main
  segment (x : Box) : t.segment x = (u.monitorMoves new).segment x
  autoLift : t.boxes.autoLift = none
  roll (x : Box) : t.roll x = if u.actuators.autoDip = true ∧ u.lowers x then
    { u.roll x with state := .autoLower (min (u.dip x) u.actuators.travel), stepPhase := 0 } else u.roll x

theorem moves_leftStopped (u : State) (new : LineState) : leftStopped u ((u.monitorMoves new).boxesMove) new := by
  have hmoves := frame_monitorMoves u new
  have hboxes := frame_boxesMove (u.monitorMoves new)
  have hleft : Frame [.causes, .autoLift, .rolls] u.leftStop (u.monitorMoves new).boxesMove :=
    hmoves.seq hboxes (by decide)
  have hsettings : (u.monitorMoves new).settings = u.settings :=
    ((congrArg State.settings hmoves.whole).trans rfl).trans (frame_dwelt u).slots_settings
  have hroll (x : Box) : (u.monitorMoves new).roll x = u.roll x :=
    ((sameRoll.of_frame hmoves (by decide) x).roll).trans (sameRoll.of_frame (frame_dwelt u) (by decide) x).roll
  refine ⟨(frame_leftStop u).seq hleft (by decide), (congrArg State.monitor hleft.whole).trans rfl,
    (congrArg (fun v : State => v.path.lanes) hleft.whole).trans rfl,
    (congrArg (fun v : State => v.path.main) hleft.whole).trans rfl,
    fun x => congrArg (fun q : PathUnit => q.segments.get x) ((congrArg State.path hboxes.whole).trans rfl),
    boxesMove_autoLift _, fun x => ?_⟩
  have hdip : (u.monitorMoves new).dip x = u.dip x :=
    congrArg (fun g : Settings => ({ u with settings := g } : State).dip x) hsettings
  have hactuators : (u.monitorMoves new).actuators = u.actuators :=
    congrArg (fun g : Settings => g.machine.actuators) hsettings
  have hlowers := lowers_congr (hroll x) hsettings
  rw [boxesMove_roll]
  by_cases h : u.actuators.autoDip = true ∧ u.lowers x
  · rw [if_pos h, if_pos ⟨hactuators ▸ h.1, hlowers.mpr h.2⟩, hroll, hdip, hactuators]
  · rw [if_neg h, if_neg fun h' => h ⟨hactuators ▸ h'.1, hlowers.mp h'.2⟩, hroll]

theorem changeLineState_runToCrawl (h : s.line.lineState = .run) :
    s.changeLineState .crawl = (s.inLineState .crawl).markCrawl := by
  rw [State.changeLineState, if_neg (by rw [h]; decide), h]
  refine (beamAnnounce_moving _ (by decide)).trans ?_
  rw [State.boxesAnnounce, if_neg (by decide), if_neg (by decide), State.monitorAnnounce, if_neg (by decide)]
  rfl

theorem changeLineState_crawlToRun (h : s.line.lineState = .crawl) : s.changeLineState .run = s.inLineState .run := by
  rw [State.changeLineState, if_neg (by rw [h]; decide), h]
  refine (beamAnnounce_moving _ (by decide)).trans ?_
  rw [State.boxesAnnounce, if_neg (by decide), if_neg (by decide), State.monitorAnnounce, if_neg (by decide)]
  rfl

/-- Settles O21: leaving STOPPED unit by unit, and the two changes in motion. -/
theorem leavingStoppedClearsSoakAndAppliesDwell : Obligations.LeavingStoppedClearsSoakAndAppliesDwell := by
  refine ⟨fun s new hstop hnew => ?_, fun s hrun => ?_, fun s hcrawl => changeLineState_crawlToRun hcrawl⟩
  · have hleft := moves_leftStopped (s.inLineState new) new
    rw [← changeLineState_leaving hstop hnew] at hleft
    generalize s.changeLineState new = t at hleft
    obtain ⟨hframe, hmonitor, hlanes, hmain, hsegment, hlift, hroll⟩ := hleft
    refine ⟨?_, fun x => ?_, fun z => ?_, fun x i => ?_, fun i => ?_, fun x => ?_, hroll⟩
    · have hinterval : t.monitor.interval = none := by rw [hmonitor]; rfl
      refine hframe.whole.trans ?_
      rw [← hinterval, ← hlift]
      rfl
    · rw [State.soak, hmonitor]
      cases x <;> rfl
    · rw [hmonitor]
      exact PerZone.get_mapWith ..
    · rw [State.lane, hlanes]
      exact dwelt_lane (s.inLineState new) x i
    · rw [hmain]
      exact dwelt_main (s.inLineState new) i
    · rw [hsegment, monitorMoves_segment]
      rfl
  · have hframe := frame_markCrawl (s.inLineState .crawl)
    exact ⟨_, changeLineState_runToCrawl hrun, hframe.whole, markCrawl_segment _⟩

end announce

end Sys2Proof.Machine
end

section
/-! A TRACK PULSE: the line-state work, then millimetre after millimetre. -/

namespace Sys2Proof.Machine

section track
variable {s : State}

/-! ### What counting a length leaves of the line -/

/-- Two units that differ at most in what a boundary writes: path origin, boundary distance, stretch ring and the
FEED_SILENT detail. -/
def LengthUnit.boundedFrom (u v : LengthUnit) : Prop := v = { u with
  origin := v.origin, distance := v.distance, stretchRing := v.stretchRing, feedSilent := v.feedSilent }

theorem LengthUnit.boundedFrom.trans {u v w : LengthUnit} (h : u.boundedFrom v) (h' : v.boundedFrom w) :
    u.boundedFrom w := by
  unfold LengthUnit.boundedFrom at *
  rw [h'] at *
  rw [h]

theorem LengthUnit.boundedFrom.track {u v : LengthUnit} (h : u.boundedFrom v) : v.track = u.track :=
  (congrArg LengthUnit.track h).trans rfl

theorem LengthUnit.boundedFrom.withTrack {u v : LengthUnit} (h : u.boundedFrom v) (track : Long) :
    LengthUnit.boundedFrom { u with track := track } { v with track := track } := by
  unfold LengthUnit.boundedFrom
  exact (congrArg (fun w : LengthUnit => { w with track := track }) h).trans rfl

theorem takeSequence_line (s : State) : s.line.boundedFrom s.takeSequence.line := by
  unfold State.takeSequence LengthUnit.boundedFrom
  dsimp only
  split
  · rfl
  · rw [State.pathClear_line]

theorem takeStretch_line (s : State) : s.takeStretch.line = { s.line with
    feedSilent := s.line.feedSilentAfter
    stretchRing := pushRing Config.stretchWindow s.line.stretchRing s.line.feed } := by
  rw [State.takeStretch, State.postIf_line]

theorem boundary_boundedFrom (s : State) : s.line.boundedFrom s.boundary.line := by
  refine (takeSequence_line s).trans ?_
  rw [boundary_line, takeStretch_line]
  rfl

/-- One millimetre adds one to the track counter and works at the boundary's own items. -/
theorem trackMillimetre_line (s : State) :
    LengthUnit.boundedFrom { s.line with track := s.line.track + 1 } s.trackMillimetre.line := by
  have hw := State.woundMillimetre_line { s with line := { s.line with track := s.line.track + 1 } }
  unfold State.trackMillimetre
  dsimp only
  split
  · rw [hw]
    rfl
  · refine LengthUnit.boundedFrom.trans ?_ (boundary_boundedFrom _)
    rw [hw]
    rfl

theorem trackMillimetres_line (n : Nat) (s : State) :
    LengthUnit.boundedFrom { s.line with track := s.line.track + BitVec.ofNat 32 n }
      (State.trackMillimetres n s).line := by
  induction n generalizing s with
  | zero =>
    rw [show s.line.track + BitVec.ofNat 32 0 = s.line.track from BitVec.add_zero _]
    rfl
  | succ n ih =>
    refine LengthUnit.boundedFrom.trans ?_ (ih s.trackMillimetre)
    have h := trackMillimetre_line s
    have hsum : s.line.track + BitVec.ofNat 32 (n + 1) = s.trackMillimetre.line.track + BitVec.ofNat 32 n := by
      rw [h.track, Nat.add_comm n 1, BitVec.ofNat_add, ← BitVec.add_assoc]
      rfl
    rw [hsum]
    exact h.withTrack _

theorem trackMillimetres_eq (n : Nat) (s : State) : State.trackMillimetres n s = State.trackMillimetre^[n] s := by
  induction n generalizing s with
  | zero => rfl
  | succ n ih => rw [State.trackMillimetres, ih, Function.iterate_succ_apply]

/-! ### What the line-state work leaves of the line -/

theorem comparedLineState_moving {old : LineState} (h : old ≠ .stopped) (speed threshold hysteresis : Nat) :
    comparedLineState old speed threshold hysteresis ≠ .stopped := by
  cases old with
  | stopped => exact absurd rfl h
  | crawl | run => unfold comparedLineState; dsimp only; split <;> decide

theorem trackLineWork_line (s : State) : ∃ speed lineState periods, lineState ≠ .stopped
    ∧ s.trackLineWork.line = { s.line with
        speed := speed, lineState := lineState, periods := periods, lastCapture := some s.line.timebase
        standstill := some ⟨0, s.measurement.standstillTimeout * 1000⟩ } := by
  by_cases hstop : s.line.lineState = .stopped
  · rw [s.trackLineWork_stopped hstop]
    exact ⟨0, .crawl, s.line.periods, by decide, by
      rw [State.latchedAs, State.changeLineState_line]
      rfl⟩
  · cases hlast : s.line.lastCapture with
    | none =>
      refine ⟨s.line.speed, s.line.lineState, s.line.periods, hstop, ?_⟩
      rw [State.trackLineWork, if_neg hstop, hlast]
      simp only [LengthUnit.latch, hlast]
      rfl
    | some last =>
      rw [s.trackLineWork_moving hstop hlast, State.latchedAs, State.paced_line]
      exact ⟨_, _, _, comparedLineState_moving hstop _ _ _, rfl⟩

theorem trackLineWork_settings (s : State) : s.trackLineWork.settings = s.settings :=
  (congrArg State.settings (frame_trackLineWork s).whole).trans rfl

/-! ### What a change of LINE STATE leaves of the rolls -/

/-- Two states in which a roll stands at the same position with the same completion slot. -/
def sameStand (s t : State) (x : Box) : Prop :=
  (t.roll x).position = (s.roll x).position ∧ (t.roll x).slot = (s.roll x).slot

theorem sameStand.trans {t u : State} {x : Box} (h : sameStand s t x) (h' : sameStand t u x) : sameStand s u x :=
  ⟨h'.1.trans h.1, h'.2.trans h.2⟩

theorem sameStand.of_roll {t : State} {x : Box} (h : t.roll x = s.roll x) : sameStand s t x := by
  rw [sameStand, h]
  exact ⟨rfl, rfl⟩

theorem bothLower_sameStand (s : State) (x : Box) : sameStand s ((s.autoLowerRoll .a).autoLowerRoll .b) x := by
  rw [sameStand, bothLower_roll]
  split <;> exact ⟨rfl, rfl⟩

theorem boxesAnnounce_sameStand (s : State) (old new : LineState) (x : Box) : sameStand s (s.boxesAnnounce old new)
  x := by
  unfold State.boxesAnnounce
  dsimp only
  split
  · exact .of_roll rfl
  · split
    · split
      · exact bothLower_sameStand s.liftStopped x
      · exact .of_roll rfl
    · exact .of_roll rfl

theorem changeLineState_sameStand (s : State) (new : LineState) (x : Box) : sameStand s (s.changeLineState new) x :=
  by
  unfold State.changeLineState
  dsimp only
  split
  · exact .of_roll rfl
  · refine sameStand.trans ?_ (.of_roll (sameRoll.of_frame (frame_beamAnnounce _ new) (by decide) x).roll)
    refine sameStand.trans ?_ (boxesAnnounce_sameStand _ _ new x)
    exact .of_roll (monitorAnnounce_sameRoll _ _ new x).roll

theorem trackLineWork_sameStand (s : State) (x : Box) : sameStand s s.trackLineWork x := by
  have hchange (u : LengthUnit) (new : LineState) : sameStand s (({ s with line := u } : State).changeLineState new)
    x :=
    changeLineState_sameStand { s with line := u } new x
  unfold State.trackLineWork
  dsimp only
  split
  · exact (hchange _ .crawl).trans (.of_roll rfl)
  · split
    · exact (hchange { s.line.latch with speed := _ } _).trans (.of_roll rfl)
    · exact .of_roll rfl

/-! ### The pulse whole (R1 to R6) -/

/-- The state whose millimetres a pulse counts: the line-state work done, the residue left. -/
def State.counting (s : State) : State := { s.trackLineWork with line := { s.trackLineWork.line with
  trackResidue := (s.line.trackResidue + s.measurement.trackWeight) % 1000 } }

theorem trackPulse_eq (s : State) : trackPulse s
    = State.trackMillimetre^[(s.line.trackResidue + s.measurement.trackWeight) / 1000] s.counting := by
  obtain ⟨speed, lineState, periods, -, hline⟩ := trackLineWork_line s
  have hresidue : s.trackLineWork.line.trackResidue = s.line.trackResidue := by rw [hline]
  have hmeasurement : s.trackLineWork.measurement = s.measurement :=
    congrArg (fun g : Settings => g.machine.measurement) (trackLineWork_settings s)
  rw [trackPulse, State.countTrack, hresidue, hmeasurement, trackMillimetres_eq]
  rfl

theorem trackPulse_line (s : State) : ∃ speed lineState periods, lineState ≠ .stopped
    ∧ LengthUnit.boundedFrom { s.line with
        track := s.line.track + BitVec.ofNat 32 ((s.line.trackResidue + s.measurement.trackWeight) / 1000)
        trackResidue := (s.line.trackResidue + s.measurement.trackWeight) % 1000
        speed := speed, lineState := lineState, periods := periods, lastCapture := some s.line.timebase
        standstill := some ⟨0, s.measurement.standstillTimeout * 1000⟩ } (trackPulse s).line := by
  obtain ⟨speed, lineState, periods, hmove, hline⟩ := trackLineWork_line s
  refine ⟨speed, lineState, periods, hmove, ?_⟩
  have h := trackMillimetres_line ((s.line.trackResidue + s.measurement.trackWeight) / 1000) s.counting
  rw [trackPulse_eq, ← trackMillimetres_eq]
  have hcounting : s.counting.line = { s.line with
      trackResidue := (s.line.trackResidue + s.measurement.trackWeight) % 1000
      speed := speed, lineState := lineState, periods := periods, lastCapture := some s.line.timebase
      standstill := some ⟨0, s.measurement.standstillTimeout * 1000⟩ } := by
    rw [State.counting, hline]
  rw [hcounting] at h
  exact h

theorem trackPulse_sameStand (s : State) (x : Box) : sameStand s (trackPulse s) x := by
  have hcount (n : Nat) : Frame bounded s.trackLineWork (State.trackMillimetres n s.counting) :=
    (frame_withLine _ _).seq (frame_trackMillimetres _ _) (by decide)
  rw [trackPulse_eq, ← trackMillimetres_eq]
  exact (trackLineWork_sameStand s x).trans (.of_roll (congrArg (PerBox.get · x) ((hcount _).2 .rolls (by decide))))

/-- Settles O18: the pulse as the iterate of its millimetre, the line by what each millimetre writes of it, all else
  by
the footprint. -/
theorem trackPulseCountsItsLength : Obligations.TrackPulseCountsItsLength := by
  intro s hrun
  have hframe := frame_trackPulse s
  obtain ⟨speed, lineState, periods, hmove, hline⟩ := trackPulse_line s
  have hwhole := hframe.whole
  have hstand := trackPulse_sameStand s
  have heq := trackPulse_eq s
  have hexec := exec_trackPulse s hrun
  unfold LengthUnit.boundedFrom at hline
  generalize trackPulse s = t at *
  obtain ⟨hfree, hpower, hkind, hhold, hmark⟩ := hframe.2 .supply (by decide)
  obtain ⟨hpressure, -⟩ := hframe.2 .pressure (by decide)
  obtain ⟨hplan, hstore⟩ := hframe.2 .beamLists (by decide)
  obtain ⟨hgauge, hregain, -⟩ := hframe.2 .gauge (by decide)
  refine ⟨t, hexec, heq, by rw [hline], by rw [hline], by rw [hline], by rw [hline], by rw [hline]; exact hmove,
    by rw [hline], by rw [hline], by rw [hline], (congrArg State.settings hwhole).trans rfl,
    hframe.2 .pendingStyle (by decide), hframe.2 .nv (by decide), hframe.2 .arbiter (by decide), hpower, hhold, hmark,
    hkind, hpressure, hframe.2 .fieldReset (by decide), hplan, hstore, hframe.2 .reports (by decide), hgauge, hregain,
    hframe.eventsOnly (by decide), hstand⟩

end track

end Sys2Proof.Machine
end

section
/-! A start of the card: its kind, what every start leaves, what a cold one clears and what a warm one keeps. -/

namespace Sys2Proof.Machine

/-! ### The records a warm start stamps (R39) -/

section stamped
variable {s : State}

/-- A function applied for each of several reasons, where a second application adds nothing, is applied once for
  any. -/
theorem foldl_ite_idempotent {α β : Type} {f : α → α} (hf : ∀ r, f (f r) = f r) (p : β → Bool) (zs : List β) (r : α) :
    zs.foldl (fun r z => if p z then f r else r) r = if zs.any p then f r else r := by
  induction zs generalizing r with
  | nil => rfl
  | cons z zs ih =>
    rw [List.foldl_cons, ih, List.any_cons]
    cases p z <;> cases zs.any p <;> simp [hf]

theorem addToZone_lane_at (s : State) (z : Zone) (c : CauseSet) (d : Nat) (x : Box) (i : Nat) :
    ((s.addToZone z c d).lane x)[i]? = (s.lane x)[i]?.map fun slot => slot.map fun r =>
      if (decide (z = laneZone x) && s.zoneHolds z i) = true then r.add c d else r := by
  rw [State.addToZone_lane, markWhere_getElem?]

theorem addToZone_main_at (s : State) (z : Zone) (c : CauseSet) (d : Nat) (i : Nat) :
    ((s.addToZone z c d).path.main)[i]? = s.path.main[i]?.map fun slot => slot.map fun r =>
      if (decide (z ∈ mainZones) && s.zoneHolds z i) = true then r.add c d else r := by
  rw [State.addToZone_main, markWhere_getElem?]

theorem powerStamped_lane (s : State) (x : Box) (i : Nat) : (s.powerStamped.lane x)[i]?
    = (s.lane x)[i]?.map fun slot => slot.map fun r => if s.zoneHolds (laneZone x) i then
        r.add Cause.powerstop.set 0 else r := by
  have h := foldl_slots (view := (State.lane · x)) (f := fun t z => t.addToZone z Cause.powerstop.set 0) (s := s)
    (g := fun z i r => if (decide (z = laneZone x) && s.zoneHolds z i) = true then r.add Cause.powerstop.set 0 else r)
    (fun t z ht => ⟨frame_addToZone t z _ _, fun i => by
      rw [addToZone_lane_at, zoneHolds_of_settings ht.slots_settings]⟩) Zone.all (.refl _ s) i
  rw [State.powerStamped, h]
  refine congrArg (fun f => (s.lane x)[i]?.map fun slot => slot.map f) (funext fun r => ?_)
  refine (foldl_ite_idempotent (f := fun r => LaneRecord.add r Cause.powerstop.set 0)
    (LaneRecord.add_add_causes _) _ _ r).trans ?_
  cases x <;> simp [Zone.all]

theorem powerStamped_main (s : State) (i : Nat) : s.powerStamped.path.main[i]?
    = s.path.main[i]?.map fun slot => slot.map fun r => if mainZones.any fun z => s.zoneHolds z i then
        r.add Cause.powerstop.set 0 else r := by
  have h := foldl_slots (view := fun t => t.path.main) (f := fun t z => t.addToZone z Cause.powerstop.set 0) (s := s)
    (g := fun z i r => if (decide (z ∈ mainZones) && s.zoneHolds z i) = true then r.add Cause.powerstop.set 0 else r)
    (fun t z ht => ⟨frame_addToZone t z _ _, fun i => by
      rw [addToZone_main_at, zoneHolds_of_settings ht.slots_settings]⟩) Zone.all (.refl _ s) i
  rw [State.powerStamped, h]
  refine congrArg (fun f => s.path.main[i]?.map fun slot => slot.map f) (funext fun r => ?_)
  refine (foldl_ite_idempotent (f := fun r => MainRecord.add r Cause.powerstop.set 0)
    (MainRecord.add_add_causes _) _ _ r).trans ?_
  simp [Zone.all]

end stamped

/-! ### A warm start (R39, R61, R77, R124) -/

/-- The soak-pending count a warm start leaves: of a box in use at least the segments its immersion length covers. -/
def State.armedPending (s : State) (x : Box) : Nat :=
  if s.inUse x = true then max (s.soak x).pending ((s.geometry.immersion.get x + 199) / 200) else (s.soak x).pending

/-- What a warm start makes of the state every start leaves. -/
structure warmedFrom (c t : State) : Prop where
  frame : Frame warmed c t
  lanes (x : Box) : t.lane x = c.powerStamped.lane x
  main : t.path.main = c.powerStamped.path.main
  segment (x : Box) : t.segment x = { c.segment x with
    causes := (c.segment x).causes ||| (if c.inUse x = true then Cause.depthUnknown.set else 0) }
  soak (x : Box) : t.soak x = { c.soak x with pending := c.armedPending x }
  report (x : Box) : t.report x = (c.report x).warm
  current : t.beams.current = c.beams.current.map fun o => { o with record := { o.record with retained := true } }

section warm

theorem warmSoak_eq (s : State) (x : Box) : s.warmSoak x = s.setSoak x { s.soak x with
    pending := s.armedPending x } := by
  unfold State.warmSoak State.armedPending
  split
  · rfl
  · cases x <;> rfl

theorem bothWarmSoak_soak (s : State) (x : Box) : ((s.warmSoak .a).warmSoak .b).soak x = { s.soak x with
    pending := s.armedPending x } := by
  rw [warmSoak_eq, warmSoak_eq]
  cases x <;> rfl

theorem retainBeam_current (s : State) : s.retainBeam.beams.current
    = s.beams.current.map fun o => { o with record := { o.record with retained := true } } := by
  unfold State.retainBeam
  split
  · next h => rw [h]; rfl
  · next o h => rw [h]; rfl

theorem armedPending_kept {c u : State} (h : Frame [.slots] c u) (x : Box) : u.armedPending x = c.armedPending x := by
  have hgeometry : u.geometry = c.geometry := congrArg (fun g : Settings => g.machine.geometry) h.slots_settings
  have hsoak : u.soak x = c.soak x := congrArg (fun m : MonitorUnit => m.soak.get x) h.slots_monitor
  rw [State.armedPending, inUse_of_settings h.slots_settings, hgeometry, hsoak]
  rfl

/-- The rest of a warm start, behind the stamping of the records. -/
theorem warmRest_warmedFrom {c u : State} (h : Frame [.slots] c u)
    (hframe : Frame warmed c ((u.warmSoak .a).warmSoak .b).warmReports.depthsUnknown.retainBeam)
    (hlanes : ∀ x, u.lane x = c.powerStamped.lane x) (hmain : u.path.main = c.powerStamped.path.main) :
    warmedFrom c ((u.warmSoak .a).warmSoak .b).warmReports.depthsUnknown.retainBeam := by
  have hsoaked : Frame [.soak] u ((u.warmSoak .a).warmSoak .b) := (frame_warmSoak u .a).trans (frame_warmSoak _ .b)
  have hsoak := bothWarmSoak_soak u
  generalize (u.warmSoak .a).warmSoak .b = v at *
  have hreported := frame_warmReports v
  have hmarked := frame_depthsUnknown v.warmReports
  have hretained := frame_retainBeam v.warmReports.depthsUnknown
  have hbefore : Frame [.slots, .soak, .reports] c v.warmReports :=
    (h.seq (rs := [.slots, .soak]) hsoaked (by decide)).seq hreported (by decide)
  have hafter : Frame [.causes, .beam] v.warmReports v.warmReports.depthsUnknown.retainBeam :=
    hmarked.seq hretained (by decide)
  have hrest : Frame [.soak, .reports, .causes, .beam] u v.warmReports.depthsUnknown.retainBeam :=
    (hsoaked.seq (rs := [.soak, .reports]) hreported (by decide)).seq hafter (by decide)
  obtain ⟨hlanes', hmain'⟩ := hrest.2 .slots (by decide)
  have hsettings : v.warmReports.settings = c.settings := (congrArg State.settings hbefore.whole).trans rfl
  refine ⟨hframe, fun x => (congrArg (PerBox.get · x) hlanes').trans (hlanes x), hmain'.trans hmain, fun x => ?_,
    fun x => ?_, fun x => ?_, ?_⟩
  · have hend : v.warmReports.depthsUnknown.retainBeam.segment x = v.warmReports.depthsUnknown.segment x :=
      congrArg (PerBox.get · x) (hretained.segments_eq (by decide))
    have hstart : v.warmReports.segment x = c.segment x :=
      congrArg (PerBox.get · x) (hbefore.segments_eq (by decide))
    rw [hend, State.depthsUnknown, bothCauses_segment, hstart, inUse_of_settings hsettings]
  · have hend : v.warmReports.depthsUnknown.retainBeam.soak x = v.soak x :=
      congrArg (PerBox.get · x) ((hreported.seq (rs := [.reports, .causes, .beam]) hafter (by decide)).2 .soak
        (by decide))
    have hstart : u.soak x = c.soak x := congrArg (fun m : MonitorUnit => m.soak.get x) h.slots_monitor
    rw [hend, hsoak, armedPending_kept h, hstart]
  · have hend : v.warmReports.depthsUnknown.retainBeam.report x = v.warmReports.report x :=
      congrArg (PerBox.get · x) (hafter.2 .reports (by decide))
    have hstart : v.report x = c.report x :=
      congrArg (PerBox.get · x) ((h.seq (rs := [.slots, .soak]) hsoaked (by decide)).2 .reports (by decide))
    rw [hend, ← hstart]
    cases x <;> rfl
  · have hstart : v.warmReports.depthsUnknown.beams.current = c.beams.current :=
      (hbefore.seq (rs := [.slots, .soak, .reports, .causes]) hmarked (by decide)).2 .beam (by decide)
    rw [retainBeam_current, hstart]

theorem startWarm_warmedFrom (c : State) : warmedFrom c c.startWarm := by
  have hframe := frame_startWarm c
  rw [startWarm_eq] at hframe ⊢
  exact warmRest_warmedFrom (frame_powerStamped c) hframe (fun _ => rfl) rfl

end warm

/-! ### What every start leaves (R154, R155) -/

section start
variable {s : State}

/-- The state every start leaves, whatever its kind. -/
def State.begun (s : State) (kind : StartKind) : State := (s.startCommon kind).startAutoLift

/-- The items no kind of start treats apart. -/
structure startedFrom (s t : State) : Prop where
  supply : t.power = .running ∧ t.hold = some 0 ∧ t.mark = false
  nv : t.nv = s.nv.stopStore s.freeCount
  arbiter : t.arbiter = ⟨.p0, none, none⟩
  ports (p : Port) : t.port p = .start
  boxes : t.boxes = {
    pressure := ⟨⟨0, 0⟩, ⟨0, 0⟩⟩
    rampTimer := 0
    rolls := ⟨.start, .start⟩
    autoLift := if 0 < t.actuators.autoLiftDelay then some ⟨0, t.actuators.autoLiftDelay * 1000000⟩ else none
    fieldReset := none
    homeSwitch := s.boxes.homeSwitch }
  windows : t.addOn.windows = ⟨[], []⟩
  soak (x : Box) : t.soak x = ⟨0, false, (t.soak x).pending, true⟩
  monitor : t.monitor = {
    interval := some 0
    soak := t.monitor.soak
    zones := ⟨⟨true, 0, false⟩, ⟨true, 0, false⟩, ⟨true, 0, false⟩, ⟨true, 0, false⟩, ⟨true, 0, false⟩,
      ⟨true, 0, false⟩⟩
    gauge := .none
    regain := none
    sampleTimer := 0 }
  line : t.line.speed = 0 ∧ t.line.lineState = .stopped ∧ t.line.periods = [] ∧ t.line.lastCapture = none
    ∧ t.line.standstill = none
  jets : t.beams.cutJet = none ∧ t.beams.faultJet = none

theorem begun_startedFrom (s : State) (kind : StartKind) : startedFrom s (s.begun kind) :=
  ⟨⟨rfl, rfl, rfl⟩, rfl, rfl, fun p => by cases p <;> rfl, rfl, rfl, fun x => by cases x <;> rfl, rfl,
    ⟨rfl, rfl, rfl, rfl, rfl⟩, ⟨rfl, rfl⟩⟩

/-! ### A cold start (R15, R38, R60, R76, R123) -/

/-- A path clear in STOPPED with both depth conditions UNKNOWN. -/
theorem pathClear_unknown {u : State} (hstop : u.line.lineState = .stopped)
    (hrolls : ∀ x, (u.roll x).depth = .unknown) : u.pathClear = { u with
      path := {
        lanes := ⟨List.replicate u.geometry.depthA none, List.replicate u.geometry.depthB none⟩
        main := List.replicate u.geometry.depthMain none
        segments := ⟨⟨0, if u.inUse .a = true then Cause.depthUnknown.set else 0⟩,
          ⟨0, if u.inUse .b = true then Cause.depthUnknown.set else 0⟩⟩
        sequence := 0 }
      line := { u.line with origin := u.line.track, distance := 0, stretchRing := [] }
      addOn := { u.addOn with windows := ⟨[], []⟩ } } := by
  have hreopened (x : Box) : u.reopened x = ⟨0, if u.inUse x = true then Cause.depthUnknown.set else 0⟩ := by
    rw [State.reopened, State.standingCauses_stopped hstop, hrolls]
    rfl
  rw [State.pathClear_eq, hreopened .a, hreopened .b]

/-- A start that takes nothing over, as a whole next state. -/
theorem startCold_eq (c : State) (hstop : c.line.lineState = .stopped) (hrolls : ∀ x, (c.roll x).depth = .unknown) :
    c.startCold = { c with
      line := { c.line with
        track := 0, trackResidue := 0, feed := 0, feedResidue := 0, feedSilent := false, origin := 0, distance := 0
        stretchRing := [] }
      path := {
        lanes := ⟨List.replicate c.geometry.depthA none, List.replicate c.geometry.depthB none⟩
        main := List.replicate c.geometry.depthMain none
        segments := ⟨⟨0, if c.inUse .a = true then Cause.depthUnknown.set else 0⟩,
          ⟨0, if c.inUse .b = true then Cause.depthUnknown.set else 0⟩⟩
        sequence := 0 }
      addOn := ⟨⟨[], []⟩, ⟨⟨none, none, .unknown, none⟩, ⟨none, none, .unknown, none⟩⟩⟩
      monitor := { c.monitor with soak := ⟨soakAfresh, soakAfresh⟩ }
      beams := { c.beams with current := none, plan := [], store := [] }
      pendingStyle := none } := by
  unfold State.startCold
  exact (pathClear_unknown (by exact hstop) (by exact hrolls)).trans rfl

theorem begun_startCold (s : State) (kind : StartKind) : startedFrom s (s.begun kind).startCold
    ∧ (s.begun kind).startCold.startKind = kind := by
  obtain ⟨hsupply, hnv, harbiter, hports, hboxes, -, -, hmonitor, hline, hjets⟩ := begun_startedFrom s kind
  rw [startCold_eq _ rfl (fun x => by cases x <;> rfl)]
  refine ⟨⟨hsupply, hnv, harbiter, hports, hboxes, rfl, fun x => by cases x <;> rfl, ?_, hline, hjets⟩, rfl⟩
  rfl

theorem begun_startWarm (s : State) (kind : StartKind) : startedFrom s (s.begun kind).startWarm
    ∧ (s.begun kind).startWarm.startKind = kind := by
  obtain ⟨hsupply, hnv, harbiter, hports, hboxes, hwindows, hsoak, -, hline, hjets⟩ := begun_startedFrom s kind
  obtain ⟨hframe, -, -, -, hpending, -, -⟩ := startWarm_warmedFrom (s.begun kind)
  generalize (s.begun kind).startWarm = t at *
  have hwhole := hframe.whole
  have hsettings : t.settings = (s.begun kind).settings := (congrArg State.settings hwhole).trans rfl
  have hline' : t.line = (s.begun kind).line := hframe.2 .line (by decide)
  have hboxes' : t.boxes = (s.begun kind).boxes := (congrArg State.boxes hwhole).trans rfl
  have hactuators : t.actuators = (s.begun kind).actuators :=
    congrArg (fun g : Settings => g.machine.actuators) hsettings
  refine ⟨⟨hwhole ▸ hsupply, (congrArg State.nv hwhole).trans rfl, (congrArg State.arbiter hwhole).trans rfl,
    fun p => ?_, ?_, (congrArg (fun u : State => u.addOn.windows) hwhole).trans rfl, fun x => ?_,
    (congrArg State.monitor hwhole).trans rfl, ?_, hframe.2 .jets (by decide)⟩,
    (congrArg State.startKind hwhole).trans rfl⟩
  · rw [State.port, (congrArg State.ports hwhole).trans rfl]
    exact hports p
  · rw [hboxes', hactuators]
    exact hboxes
  · rw [hpending, hsoak]
  · rw [hline']
    exact hline

/-! ### The kind of a start (R154) -/

theorem startKindFor_eq (s : State) (retain : Bool) : s.startKindFor retain
    = if s.nv.bank1.good = false ∧ s.nv.bank2.good = false then .nvLost
      else if s.mark = true ∧ retain = true then .warm else .cold := by
  rw [State.startKindFor]
  by_cases h : s.nv.bank1.good = false ∧ s.nv.bank2.good = false
  · rw [if_pos h, s.nv.lastGood_eq_none.mpr h]
  · rw [if_neg h]
    cases hgood : s.nv.lastGood with
    | none => exact absurd (s.nv.lastGood_eq_none.mp hgood) h
    | some c => cases s.mark <;> cases retain <;> rfl

theorem cardStart_warm {retain : Bool} (h : s.startKindFor retain = .warm) :
    cardStart retain s = (s.begun .warm).startWarm := by
  rw [cardStart, h]
  rfl

theorem cardStart_clear {retain : Bool} (h : s.startKindFor retain ≠ .warm) :
    cardStart retain s = (s.begun (s.startKindFor retain)).startCold := by
  rw [cardStart]
  cases hk : s.startKindFor retain with
  | warm => exact absurd hk h
  | cold | nvLost => rfl

theorem cardStart_cases (retain : Bool) (s : State) :
    (s.startKindFor retain = .warm ∧ cardStart retain s = (s.begun .warm).startWarm)
      ∨ s.startKindFor retain ≠ .warm ∧ cardStart retain s = (s.begun (s.startKindFor retain)).startCold := by
  by_cases h : s.startKindFor retain = .warm
  · exact .inl ⟨h, cardStart_warm h⟩
  · exact .inr ⟨h, cardStart_clear h⟩

theorem cardStart_startedFrom (retain : Bool) (s : State) : startedFrom s (cardStart retain s) := by
  rcases cardStart_cases retain s with ⟨-, h⟩ | ⟨-, h⟩
  · rw [h]
    exact (begun_startWarm s .warm).1
  · rw [h]
    exact (begun_startCold s _).1

/-- What a start that takes nothing over leaves of the counters, the path, the reports and the beams. -/
structure clearedStart (t : State) : Prop where
  line : t.line.track = 0 ∧ t.line.feed = 0 ∧ t.line.trackResidue = 0 ∧ t.line.feedResidue = 0 ∧ t.line.origin = 0
    ∧ t.line.distance = 0 ∧ t.line.stretchRing = [] ∧ t.line.feedSilent = false
  path : t.path = {
    lanes := ⟨List.replicate t.geometry.depthA none, List.replicate t.geometry.depthB none⟩
    main := List.replicate t.geometry.depthMain none
    segments := ⟨⟨0, if t.inUse .a = true then Cause.depthUnknown.set else 0⟩,
      ⟨0, if t.inUse .b = true then Cause.depthUnknown.set else 0⟩⟩
    sequence := 0 }
  boxes (x : Box) : t.report x = ⟨none, none, .unknown, none⟩ ∧ (t.soak x).pending = 0
  beams : t.beams.current = none ∧ t.beams.plan = [] ∧ t.beams.store = [] ∧ t.pendingStyle = none

theorem begun_clearedStart (s : State) (kind : StartKind) : clearedStart (s.begun kind).startCold
    ∧ (s.begun kind).startCold.settings = s.startSettings kind := by
  rw [startCold_eq _ rfl (fun x => by cases x <;> rfl)]
  exact ⟨⟨⟨rfl, rfl, rfl, rfl, rfl, rfl, rfl, rfl⟩, rfl, fun x => by cases x <;> exact ⟨rfl, rfl⟩,
    ⟨rfl, rfl, rfl, rfl⟩⟩, rfl⟩

/-- The settings a cold start takes: those of the last good bank. -/
theorem startSettings_cold {id : BankId} {c : BankCopy} (h : s.nv.lastGood = some (id, c)) :
    s.startSettings .cold = c.settings := by
  rw [State.startSettings, h]
  rfl

theorem lastGood_of_cold {retain : Bool} (h : s.startKindFor retain = .cold) : ∃ id c, s.nv.lastGood = some (id, c)
  := by
  cases hgood : s.nv.lastGood with
  | none => simp [State.startKindFor, hgood] at h
  | some c => exact ⟨c.1, c.2, rfl⟩

/-- What a warm start keeps and what it adds. -/
structure warmStart (s t : State) : Prop where
  settings : t.settings = s.settings ∧ t.pendingStyle = s.pendingStyle
  line : t.line.track = s.line.track ∧ t.line.feed = s.line.feed ∧ t.line.trackResidue = s.line.trackResidue
    ∧ t.line.feedResidue = s.line.feedResidue ∧ t.line.origin = s.line.origin
    ∧ t.line.distance = s.line.distance ∧ t.line.stretchRing = s.line.stretchRing
    ∧ t.line.feedSilent = s.line.feedSilent
  sequence : t.path.sequence = s.path.sequence
  lanes (x : Box) (i : Nat) : (t.lane x)[i]? = (s.lane x)[i]?.map fun slot => slot.map fun r =>
    if s.zoneHolds (laneZone x) i then r.add Cause.powerstop.set 0 else r
  main (i : Nat) : t.path.main[i]? = s.path.main[i]?.map fun slot => slot.map fun r =>
    if mainZones.any fun z => s.zoneHolds z i then r.add Cause.powerstop.set 0 else r
  boxes (x : Box) : t.segment x = { s.segment x with
      causes := (s.segment x).causes ||| (if s.inUse x then Cause.depthUnknown.set else 0) }
    ∧ (t.soak x).pending = s.armedPending x ∧ t.report x = (s.report x).warm
  beams : t.beams.plan = s.beams.plan ∧ t.beams.store = s.beams.store
    ∧ t.beams.current = s.beams.current.map fun o => { o with record := { o.record with retained := true } }

theorem begun_warmStart (s : State) : warmStart s (s.begun .warm).startWarm := by
  obtain ⟨hframe, hlanes, hmain, hsegment, hsoak, hreport, hcurrent⟩ := startWarm_warmedFrom (s.begun .warm)
  have hwhole := hframe.whole
  have hline : (s.begun .warm).startWarm.line = (s.begun .warm).line := hframe.2 .line (by decide)
  obtain ⟨hplan, hstore⟩ := hframe.2 .beamLists (by decide)
  generalize (s.begun .warm).startWarm = t at *
  refine ⟨⟨(congrArg State.settings hwhole).trans rfl, (congrArg State.pendingStyle hwhole).trans rfl⟩, ?_,
    hframe.2 .sequence (by decide), fun x i => ?_, fun i => ?_, fun x => ⟨?_, ?_, ?_⟩, hplan, hstore, hcurrent⟩
  · rw [hline]
    exact ⟨rfl, rfl, rfl, rfl, rfl, rfl, rfl, rfl⟩
  · rw [hlanes]
    exact powerStamped_lane (s.begun .warm) x i
  · rw [hmain]
    exact powerStamped_main (s.begun .warm) i
  · rw [hsegment]
    cases x <;> rfl
  · rw [hsoak]
    cases x <;> rfl
  · rw [hreport]
    rfl

theorem warm_report (r : Report) : r.warm.concentration = r.concentration ∧ r.warm.density = r.density
    ∧ r.warm.age = none ∧ r.warm.state = (if r.state = .unknown then .unknown else .stale) := by
  unfold Report.warm
  split
  · next h => exact ⟨rfl, rfl, rfl, h⟩
  · exact ⟨rfl, rfl, rfl, rfl⟩

/-- Settles O54: what every start leaves, then what a start that takes nothing over clears and what a warm one
  keeps. -/
theorem cardStartDecidesTheKind : Obligations.CardStartDecidesTheKind := by
  intro retain s
  have hkind : (cardStart retain s).startKind = s.startKindFor retain := cardStart_startKind retain s
  have hcases := cardStart_cases retain s
  obtain ⟨⟨hpower, hhold, hmark⟩, hnv, harbiter, hports, hboxes, hwindows, hsoak, hmonitor,
    ⟨hspeed, hstate, hperiods, hcapture, hstandstill⟩, ⟨hcut, hfault⟩⟩ := cardStart_startedFrom retain s
  obtain ⟨hflight, hkept, hfirst, hsecond⟩ := s.nv.stopStore_spec s.freeCount
  have hexec : exec (.cardStart retain) s = .next (cardStart retain s) := rfl
  generalize cardStart retain s = t at *
  rw [← hnv] at hflight hkept hfirst hsecond
  refine ⟨t, hexec, hkind.trans (startKindFor_eq s retain), hpower, hhold, hmark, hflight, hkept, hfirst, hsecond,
    harbiter, hports, hboxes, hwindows, hsoak, hmonitor, hspeed, hstate, hperiods, hcapture, hstandstill, hcut,
      hfault,
    ?clear, ?nvLost, ?cold, ?warm⟩
  case clear =>
    intro hclear
    rcases hcases with ⟨hwarm, -⟩ | ⟨-, ht⟩
    · exact absurd (hkind.trans hwarm) hclear
    · obtain ⟨⟨hline, hpath, hbox, hbeams⟩, -⟩ := begun_clearedStart s (s.startKindFor retain)
      rw [← ht] at hline hpath hbox hbeams
      obtain ⟨htrack, hfeed, htrackResidue, hfeedResidue, horigin, hdistance, hring, hsilent⟩ := hline
      exact ⟨htrack, hfeed, htrackResidue, hfeedResidue, horigin, hdistance, hring, hsilent, hpath, hbox, hbeams⟩
  case nvLost =>
    intro hlost
    rw [hkind] at hlost
    rcases hcases with ⟨hwarm, -⟩ | ⟨-, ht⟩
    · rw [hlost] at hwarm
      cases hwarm
    · rw [ht, (begun_clearedStart s _).2, hlost]
      rfl
  case cold =>
    intro hcold
    rw [hkind] at hcold
    rcases hcases with ⟨hwarm, -⟩ | ⟨-, ht⟩
    · rw [hcold] at hwarm
      cases hwarm
    · obtain ⟨id, c, hgood⟩ := lastGood_of_cold hcold
      obtain ⟨b, hb, hbgood, hcontent, hboth⟩ := NvStore.lastGood_eq_some hgood
      refine ⟨b, hb.imp And.right And.right, hbgood, ?_, hboth⟩
      rw [ht, (begun_clearedStart s _).2, hcold, startSettings_cold hgood, hcontent]
  case warm =>
    intro hwarm
    rcases hcases with ⟨-, ht⟩ | ⟨hne, -⟩
    · obtain ⟨⟨hsettings, hpending⟩, ⟨htrack, hfeed, htrackResidue, hfeedResidue, horigin, hdistance, hring, hsilent⟩,
        hsequence, hlanes, hmain, hbox, hplan, hstore, hcurrent⟩ := begun_warmStart s
      rw [← ht] at *
      refine ⟨hsettings, hpending, htrack, hfeed, htrackResidue, hfeedResidue, horigin, hdistance, hring, hsilent,
        hsequence, hlanes, hmain, fun x => ?_, hplan, hstore, hcurrent⟩
      obtain ⟨hsegment, hsoaking, hreport⟩ := hbox x
      rw [hreport]
      exact ⟨hsegment, hsoaking, warm_report _⟩
    · exact absurd (hkind.symm.trans hwarm) hne

end start

end Sys2Proof.Machine
end

section
/-! WRITE ROLES, and what WRITE MACHINE does for the groups measurement and actuators. -/

namespace Sys2Proof.Machine

/-! ### WRITE ROLES (R151) -/

section roles
variable {s : State} {h : Hdr} {r0 r1 r2 r3 : Byte}

theorem permitted_writeRoles (r : Role) : permitted r .writeRoles = true ↔ r = .station := by cases r <;> decide

theorem permitted_writeMachine (r : Role) : permitted r .writeMachine = true ↔ r = .station := by cases r <;> decide

theorem roleOf_eq_none {b : Byte} (h : 4 < b.toNat) : roleOf b = none := by
  have hne : ∀ c : Byte, c.toNat ≤ 4 → b ≠ c := by rintro c hc rfl; omega
  rw [roleOf, if_neg (hne 0 (by decide)), if_neg (hne 1 (by decide)), if_neg (hne 2 (by decide)),
    if_neg (hne 3 (by decide)), if_neg (hne 4 (by decide))]

/-- A byte up to 4 names a role, and 2 alone names STATION. -/
theorem roleOf_of_le {b : Byte} (h : b.toNat ≤ 4) : ∃ r, roleOf b = some r ∧ ((r == .station) = true ↔ b = 2) := by
  have hcases : b = 0 ∨ b = 1 ∨ b = 2 ∨ b = 3 ∨ b = 4 := by bv_omega
  rcases hcases with rfl | rfl | rfl | rfl | rfl <;> exact ⟨_, rfl, by decide⟩

theorem rolesOf_some {t : PerPort Role} (h0 : roleOf r0 = some t.p0) (h1 : roleOf r1 = some t.p1)
    (h2 : roleOf r2 = some t.p2) (h3 : roleOf r3 = some t.p3) : rolesOf r0 r1 r2 r3 = some t := by
  simp only [rolesOf, h0, h1, h2, h3]

theorem rolesOf_none (h : 4 < r0.toNat ∨ 4 < r1.toNat ∨ 4 < r2.toNat ∨ 4 < r3.toNat) : rolesOf r0 r1 r2 r3 = none :=
  by
  unfold rolesOf
  rcases h with h | h | h | h <;> rw [roleOf_eq_none h] <;> split <;> simp_all

/-- Four bytes up to 4 name a role table, which keeps a STATION port exactly where a byte is 2. -/
theorem rolesOf_of_le (h : r0.toNat ≤ 4 ∧ r1.toNat ≤ 4 ∧ r2.toNat ≤ 4 ∧ r3.toNat ≤ 4) : ∃ table : PerPort Role,
    (roleOf r0 = some table.p0 ∧ roleOf r1 = some table.p1 ∧ roleOf r2 = some table.p2 ∧ roleOf r3 = some table.p3)
      ∧ (hasStation table = true ↔ r0 = 2 ∨ r1 = 2 ∨ r2 = 2 ∨ r3 = 2) := by
  obtain ⟨h0, h1, h2, h3⟩ := h
  obtain ⟨t0, e0, i0⟩ := roleOf_of_le h0
  obtain ⟨t1, e1, i1⟩ := roleOf_of_le h1
  obtain ⟨t2, e2, i2⟩ := roleOf_of_le h2
  obtain ⟨t3, e3, i3⟩ := roleOf_of_le h3
  refine ⟨⟨t0, t1, t2, t3⟩, ⟨e0, e1, e2, e3⟩, ?_⟩
  rw [← i0, ← i1, ← i2, ← i3]
  simp [hasStation, or_assoc]

/-- The state with the role table replaced. -/
def State.withRoles (s : State) (table : PerPort Role) : State :=
  { s with settings := { s.settings with roles := table } }

theorem writeRolesWork_idle {p : Port} (hidle : s.nv.flight = none) : writeRolesWork p r0 r1 r2 r3 s =
    match rolesOf r0 r1 r2 r3 with
    | none => .plain s .range
    | some t =>
      if !hasStation t then .plain s .range
      else ⟨s.withRoles t, .ok, [], t.get p != s.role p⟩ :=
  if_neg (by simp [State.storeBusy, hidle])

theorem exec_writeRoles_accepted {table : PerPort Role} (ha : s.admits h .writeRoles) (hidle : s.nv.flight = none)
    (ht : rolesOf r0 r1 r2 r3 = some table) (hstation : hasStation table = true) :
    exec (.writeRoles h r0 r1 r2 r3) s = .next (if table.get h.port = s.role h.port
      then (s.withRoles table).replied h .ok []
      else { (s.withRoles table).replied h .ok [] with arbiter := ⟨nextPort h.port, none, none⟩ }) := by
  have hwork := writeRolesWork_idle (s := s.grant h.port) (p := h.port) (r0 := r0) (r1 := r1) (r2 := r2) (r3 := r3)
    hidle
  refine (run_admits ha).trans (congrArg Host.Outcome.next ?_)
  rw [hwork, ht]
  simp only [hstation, Bool.not_true, Bool.false_eq_true, if_false]
  by_cases hown : table.get h.port = s.role h.port
  · rw [if_pos hown, State.grant_role, show (table.get h.port != s.role h.port) = false by simp [hown]]
    exact answer_grant h (s.withRoles table) .ok []
  · rw [if_neg hown, State.grant_role, show (table.get h.port != s.role h.port) = true by simpa using hown]
    exact answer_grant_drop h (s.withRoles table) .ok []

theorem writeRoles_replaces (ha : s.admits h .writeRoles) :
    let outcome := exec (.writeRoles h r0 r1 r2 r3) s
    let legal : Prop := r0.toNat ≤ 4 ∧ r1.toNat ≤ 4 ∧ r2.toNat ≤ 4 ∧ r3.toNat ≤ 4
      ∧ (r0 = 2 ∨ r1 = 2 ∨ r2 = 2 ∨ r3 = 2)
    (s.nv.flight.isSome = true → outcome = .next (s.replied h .busy []))
    ∧ (s.nv.flight = none → ¬legal → outcome = .next (s.replied h .range []))
    ∧ (s.nv.flight = none → legal → ∃ table : PerPort Role,
        roleOf r0 = some table.p0 ∧ roleOf r1 = some table.p1 ∧ roleOf r2 = some table.p2 ∧ roleOf r3 = some table.p3
        ∧ outcome = .next (if table.get h.port = s.role h.port then (s.withRoles table).replied h .ok []
            else { (s.withRoles table).replied h .ok [] with arbiter := ⟨nextPort h.port, none, none⟩ })) := by
  intro outcome legal
  refine ⟨fun hbusy => run_plain ha (if_pos hbusy), fun hidle hillegal => ?_, fun hidle hlegal => ?_⟩
  · refine run_plain ha ((writeRolesWork_idle (s := s.grant h.port) hidle).trans ?_)
    by_cases hnamed : r0.toNat ≤ 4 ∧ r1.toNat ≤ 4 ∧ r2.toNat ≤ 4 ∧ r3.toNat ≤ 4
    · obtain ⟨table, htable, hstation⟩ := rolesOf_of_le hnamed
      have hnone : hasStation table = false := by
        rw [← Bool.not_eq_true, hstation]
        obtain ⟨h0, h1, h2, h3⟩ := hnamed
        exact fun h => hillegal ⟨h0, h1, h2, h3, h⟩
      obtain ⟨e0, e1, e2, e3⟩ := htable
      rw [rolesOf_some e0 e1 e2 e3]
      simp only [hnone, Bool.not_false, if_true]
    · rw [rolesOf_none (by omega)]
  · obtain ⟨h0, h1, h2, h3, htwo⟩ := hlegal
    obtain ⟨table, ⟨e0, e1, e2, e3⟩, hstation⟩ := rolesOf_of_le ⟨h0, h1, h2, h3⟩
    exact ⟨table, e0, e1, e2, e3,
      exec_writeRoles_accepted ha hidle (rolesOf_some e0 e1 e2 e3) (hstation.mpr htwo)⟩

end roles

end Sys2Proof.Machine
end

section
/-! What WRITE MACHINE does for the groups measurement and actuators. -/

namespace Sys2Proof.Machine

/-! ### The age limit at a write of the measurement group (R48) -/

section ages
variable {s : State} {x y : Box}

/-- A FRESH report whose age has reached the age limit. -/
abbrev State.agedOut (s : State) (x : Box) : Prop := (s.report x).state = .fresh
  ∧ (s.report x).age.any (fun a => decide (s.measurement.ageLimit * 1000000 ≤ a)) = true

theorem retestAge_eq (s : State) (x : Box) : s.retestAge x = if s.agedOut x then s.makeStale x else s := by
  unfold State.retestAge
  split
  · next a hstate hage =>
    have haged : s.agedOut x ↔ s.measurement.ageLimit * Config.second ≤ a := by
      rw [State.agedOut, hage, Option.any_some, decide_eq_true_iff, and_iff_right hstate, Config.second]
    by_cases h : s.measurement.ageLimit * Config.second ≤ a
    · rw [if_pos h, if_pos (haged.mpr h)]
    · rw [if_neg h, if_neg fun h' => h (haged.mp h')]
  · next hstate hage => rw [if_neg]; simp [State.agedOut, hage]
  · next hstate => rw [if_neg]; simp [State.agedOut, hstate]
  · next hstate => rw [if_neg]; simp [State.agedOut, hstate]

theorem makeStale_report (s : State) (x : Box) :
    (s.makeStale x).report x = { s.report x with state := .stale, age := none } := by
  rw [State.makeStale_eq]
  exact PerBox.get_set_same ..

theorem retestAge_report (s : State) (x : Box) : (s.retestAge x).report x =
    if s.agedOut x then { s.report x with state := .stale, age := none } else s.report x := by
  rw [retestAge_eq]
  by_cases h : s.agedOut x
  · rw [if_pos h, if_pos h, makeStale_report]
  · rw [if_neg h, if_neg h]

theorem retestAge_report_other (s : State) (h : y ≠ x) : (s.retestAge x).report y = s.report y := by
  rw [retestAge_eq]
  split
  · rw [State.makeStale_eq]
    exact PerBox.get_set_ne _ _ h
  · rfl

theorem retestAge_settings (s : State) (x : Box) : (s.retestAge x).settings = s.settings :=
  (congrArg State.settings (frame_retestAge s x).whole).trans rfl

theorem postIf_events (s : State) (c : Bool) (f : Flag) (p : Port) (i : Nat) :
    ((s.postIf c f).port p).events.getLsbD i = true ↔ (s.port p).events.getLsbD i = true ∨ (i = f.bit ∧ c = true) :=
      by
  cases c with
  | false => simp [State.postIf]
  | true => rw [State.postIf, if_pos rfl, post_events, and_iff_left rfl]

theorem retestAge_events (s : State) (x : Box) (p : Port) (i : Nat) :
    ((s.retestAge x).port p).events.getLsbD i = true ↔ (s.port p).events.getLsbD i = true
      ∨ (i = 11 ∧ s.laneExists x = true ∧ s.agedOut x) := by
  rw [retestAge_eq]
  by_cases h : s.agedOut x
  · rw [if_pos h, State.makeStale, postIf_events, and_iff_left h]
    rfl
  · simp [h]

theorem agedOut_congr {t : State} (hreport : t.report x = s.report x) (hsettings : t.settings = s.settings) :
    t.agedOut x ↔ s.agedOut x := by
  have hmeasurement : t.measurement = s.measurement := congrArg (fun g : Settings => g.machine.measurement) hsettings
  rw [State.agedOut, hreport, hmeasurement]

/-- Both reports tested, each as it stands. -/
theorem afterMeasurement_report (s : State) (x : Box) : s.afterMeasurement.report x =
    if s.agedOut x then { s.report x with state := .stale, age := none } else s.report x := by
  unfold State.afterMeasurement
  cases x with
  | a => rw [retestAge_report_other _ (by decide), retestAge_report]
  | b =>
    have hreport : (s.retestAge .a).report .b = s.report .b := retestAge_report_other s (by decide)
    have haged : (s.retestAge .a).agedOut .b ↔ s.agedOut .b := agedOut_congr hreport (retestAge_settings s .a)
    by_cases h : s.agedOut .b
    · rw [retestAge_report, if_pos (haged.mpr h), if_pos h, hreport]
    · rw [retestAge_report, if_neg fun h' => h (haged.mp h'), if_neg h, hreport]

theorem afterMeasurement_events (s : State) (p : Port) (i : Nat) :
    (s.afterMeasurement.port p).events.getLsbD i = true ↔ (s.port p).events.getLsbD i = true
      ∨ (i = 11 ∧ ∃ x, s.laneExists x = true ∧ s.agedOut x) := by
  have hlane : (s.retestAge .a).laneExists .b = s.laneExists .b := laneExists_of_settings (retestAge_settings s .a) .b
  have haged : (s.retestAge .a).agedOut .b ↔ s.agedOut .b :=
    agedOut_congr (retestAge_report_other s (by decide)) (retestAge_settings s .a)
  rw [State.afterMeasurement, retestAge_events, retestAge_events, hlane, haged, Box.exists_iff, or_assoc, and_or_left]

theorem frame_afterMeasurement (s : State) : Frame [.reports, .events] s s.afterMeasurement :=
  (frame_retestAge s .a).trans (frame_retestAge _ .b)

theorem State.grant_retestAge (s : State) (p : Port) (x : Box) :
    (s.grant p).retestAge x = (s.retestAge x).grant p := by
  have haged : (s.grant p).agedOut x ↔ s.agedOut x := agedOut_congr rfl rfl
  rw [retestAge_eq, retestAge_eq]
  by_cases h : s.agedOut x
  · rw [if_pos h, if_pos (haged.mpr h), State.makeStale, State.makeStale, ← State.grant_postIf]
    rfl
  · rw [if_neg h, if_neg fun h' => h (haged.mp h')]

theorem State.grant_afterMeasurement (s : State) (p : Port) :
    (s.grant p).afterMeasurement = s.afterMeasurement.grant p := by
  rw [State.afterMeasurement, State.grant_retestAge, State.grant_retestAge]
  rfl

end ages

/-! ### The travel and the pressure limit at a write of the actuators group (R87, R102) -/

section travel
variable {s : State} {x y : Box}

/-- A referenced roll that stands beyond the travel. -/
abbrev State.overruns (s : State) (x : Box) : Prop := (s.roll x).state.referenced = true
  ∧ s.actuators.travel < (s.roll x).position

theorem beyondTravel_iff (s : State) (x : Box) : s.beyondTravel x = true ↔ s.overruns x := by
  rw [State.beyondTravel, Bool.and_eq_true, decide_eq_true_iff]

theorem checkTravel_eq (s : State) (x : Box) : s.checkTravel x =
    if s.overruns x then (s.enterRoll x .unrefIdle).settleDepth x else s := by
  unfold State.checkTravel
  dsimp only
  by_cases h : s.overruns x
  · rw [if_pos h, if_pos]
    exact (beyondTravel_iff s x).mpr h
  · rw [if_neg h, if_neg]
    exact fun h' => h ((beyondTravel_iff s x).mp h')

theorem checkTravel_overrun (h : s.overruns x) : (s.checkTravel x).roll x
    = { s.roll x with state := .unrefIdle, depth := .unknown, stepPhase := 0 } ∧ s.depthFollows (s.checkTravel x) x
      := by
  rw [checkTravel_eq, if_pos h]
  refine ⟨?_, depthFollows_setRoll s x (by rfl)⟩
  rw [settleDepth_roll, State.enterRoll_eq, State.roll_setRoll_same]
  rfl

theorem checkTravel_within (h : ¬s.overruns x) : s.checkTravel x = s := by rw [checkTravel_eq, if_neg h]

theorem sameBox.checkTravel (s : State) (h : y ≠ x) : sameBox s (s.checkTravel x) y := by
  rw [checkTravel_eq]
  split
  · exact (sameBox.setRoll s _ h).trans (sameBox.settleDepth _ h)
  · exact .refl s y

theorem checkTravel_settings (s : State) (x : Box) : (s.checkTravel x).settings = s.settings :=
  (congrArg State.settings (frame_checkTravel s x).whole).trans rfl

theorem overruns_congr {t : State} (hroll : t.roll x = s.roll x) (hsettings : t.settings = s.settings) :
    t.overruns x ↔ s.overruns x := by
  have hactuators : t.actuators = s.actuators := congrArg (fun g : Settings => g.machine.actuators) hsettings
  rw [State.overruns, hroll, hactuators]

/-- The state with the pressures held to the limit. -/
def State.pressuresLimited (s : State) : State := { s with boxes := { s.boxes with
  pressure := ⟨s.boxes.pressure.a.limit s.actuators.pressureLimit, s.boxes.pressure.b.limit
    s.actuators.pressureLimit⟩ } }

theorem afterActuators_eq (s : State) : s.afterActuators =
    ((s.pressuresLimited.checkTravel .a).checkTravel .b).postIf (s.beyondTravel .a || s.beyondTravel .b) .rollUnref
      := rfl

theorem frame_travelChecked (s : State) : Frame [.rolls, .soak, .causes, .events] s.pressuresLimited
  s.afterActuators :=
  ((frame_checkTravel _ .a).trans (frame_checkTravel _ .b)).seq (frame_postIf _ _ _) (by decide)

theorem afterActuators_pressure (s : State) (x : Box) : s.afterActuators.boxes.pressure.get x
    = (s.boxes.pressure.get x).limit s.actuators.pressureLimit := by
  obtain ⟨hpressure, -⟩ := (frame_travelChecked s).2 .pressure (by decide)
  rw [hpressure]
  cases x <;> rfl

theorem afterActuators_settings (s : State) : s.afterActuators.settings = s.settings :=
  (congrArg State.settings (frame_travelChecked s).whole).trans rfl

/-- A box stands after the whole write as after the check of its own roll. -/
theorem afterActuators_box (s : State) (x : Box) : ∃ u, u.settings = s.settings ∧ sameBox s u x
    ∧ sameBox (u.checkTravel x) s.afterActuators x := by
  have hpost : sameBox ((s.pressuresLimited.checkTravel .a).checkTravel .b) s.afterActuators x :=
    .of_frame (frame_postIf _ _ _) (by decide) x
  cases x with
  | a => exact ⟨s.pressuresLimited, rfl, ⟨rfl, rfl, rfl⟩, (sameBox.checkTravel _ (by decide)).trans hpost⟩
  | b =>
    refine ⟨s.pressuresLimited.checkTravel .a, checkTravel_settings _ .a, ?_, hpost⟩
    exact sameBox.trans (t := s.pressuresLimited) ⟨rfl, rfl, rfl⟩ (sameBox.checkTravel _ (by decide))

theorem afterActuators_overrun (h : s.overruns x) : s.afterActuators.roll x
    = { s.roll x with state := .unrefIdle, depth := .unknown, stepPhase := 0 }
    ∧ s.depthFollows s.afterActuators x := by
  obtain ⟨u, hsettings, hbefore, hafter⟩ := afterActuators_box s x
  obtain ⟨hroll, hfollows⟩ := checkTravel_overrun ((overruns_congr hbefore.roll hsettings).mpr h)
  refine ⟨by rw [hafter.roll, hroll, hbefore.roll], hafter.depthFollows ?_ (depthFollows_left hbefore hfollows)⟩
  rw [afterActuators_settings, checkTravel_settings, hsettings]

theorem afterActuators_within (h : ¬s.overruns x) : sameBox s s.afterActuators x := by
  obtain ⟨u, hsettings, hbefore, hafter⟩ := afterActuators_box s x
  rw [checkTravel_within fun h' => h ((overruns_congr hbefore.roll hsettings).mp h')] at hafter
  exact hbefore.trans hafter

theorem afterActuators_events (s : State) (p : Port) (i : Nat) :
    (s.afterActuators.port p).events.getLsbD i = true
      ↔ (s.port p).events.getLsbD i = true ∨ (i = 8 ∧ ∃ x, s.overruns x) := by
  have hframe : Frame [.rolls, .soak, .causes] s.pressuresLimited
    ((s.pressuresLimited.checkTravel .a).checkTravel .b) :=
    (frame_checkTravel _ .a).trans (frame_checkTravel _ .b)
  have hevents : (((s.pressuresLimited.checkTravel .a).checkTravel .b).port p).events = (s.port p).events :=
    hframe.2 .events (by decide) p
  rw [afterActuators_eq, postIf_events, hevents, Bool.or_eq_true, beyondTravel_iff, beyondTravel_iff, Box.exists_iff]
  rfl

theorem State.grant_checkTravel (s : State) (p : Port) (x : Box) :
    (s.grant p).checkTravel x = (s.checkTravel x).grant p := by
  have hover : (s.grant p).overruns x ↔ s.overruns x := overruns_congr rfl rfl
  rw [checkTravel_eq, checkTravel_eq]
  by_cases h : s.overruns x
  · rw [if_pos h, if_pos (hover.mpr h), ← State.grant_settleDepth]
    rfl
  · rw [if_neg h, if_neg fun h' => h (hover.mp h')]

theorem State.grant_afterActuators (s : State) (p : Port) : (s.grant p).afterActuators = s.afterActuators.grant p :=
  by
  rw [afterActuators_eq, afterActuators_eq, ← State.grant_postIf, ← State.grant_checkTravel, ←
    State.grant_checkTravel]
  rfl

end travel

end Sys2Proof.Machine
end

section
/-! What WRITE MACHINE does for the geometry group, and the command whole. -/

namespace Sys2Proof.Machine

/-! ### Both depth conditions at new settings (R89) -/

section settled
variable {u : State}

theorem settleDepth_soak (u : State) (x : Box) : (u.settleDepth x).soak x =
    if depthOf (u.roll x).state (u.roll x).position (u.dip x) = (u.roll x).depth then u.soak x
    else { u.soak x with immersed := depthOf (u.roll x).state (u.roll x).position (u.dip x) != .out } := by
  rw [State.settleDepth_eq u x _ rfl, State.setSegment_soak, State.soak_setSoak_same]
  split <;> rfl

theorem settleDepths_box (u : State) (x : Box) : u.settleDepths.roll x
      = { u.roll x with depth := depthOf (u.roll x).state (u.roll x).position (u.dip x) }
    ∧ u.settleDepths.soak x
      = if depthOf (u.roll x).state (u.roll x).position (u.dip x) = (u.roll x).depth then u.soak x
        else { u.soak x with immersed := depthOf (u.roll x).state (u.roll x).position (u.dip x) != .out } := by
  cases x with
  | a =>
    have hother : sameBox (u.settleDepth .a) u.settleDepths .a := .settleDepth _ (by decide)
    exact ⟨hother.roll.trans (settleDepth_roll u .a), hother.soak.trans (settleDepth_soak u .a)⟩
  | b =>
    have hother : sameBox u (u.settleDepth .a) .b := .settleDepth _ (by decide)
    have hroll := settleDepth_roll (u.settleDepth .a) .b
    have hsoak := settleDepth_soak (u.settleDepth .a) .b
    rw [hother.roll, settleDepth_dip] at hroll
    rw [hother.roll, hother.soak, settleDepth_dip] at hsoak
    exact ⟨hroll, hsoak⟩

end settled

/-! ### The geometry group (R37, R70, R75, R102) -/

section geometry
variable {s n : State}

/-- The zone channels at the new ranges. -/
def State.rezoned (s before : State) : State := { s with monitor := { s.monitor with
  zones := s.monitor.zones.mapWith fun z (c : ZoneChannel) => c.rezone (before.zoneRange z) (s.zoneRange z) } }

/-- The channels of box B afresh where lane B comes or goes. -/
def State.reboxed (s before : State) : State :=
  if before.laneBExists = s.laneBExists then s.rezoned before
  else ((s.rezoned before).setRoll .b (((s.rezoned before).roll .b).rebox s.laneBExists)).setSoak .b soakAfresh

theorem afterGeometry_eq (s before : State) : s.afterGeometry before = (s.reboxed before).settleDepths.pathClear :=
  rfl

theorem frame_reboxed (s before : State) : Frame [.zones, .rolls, .soak] s (s.reboxed before) := by
  have hzones : Frame [.zones] s (s.rezoned before) :=
    .of_same rfl fun part => by cases part <;> simp [Part.same, State.rezoned, State.segment, State.port]
  refine .ite (fun _ => hzones.mono (by decide)) fun _ => ?_
  exact (hzones.seq (rs := [.zones, .rolls, .soak]) (frame_setRoll _ .b _) (by decide)).seq
    (frame_setSoak _ .b _) (by decide)

theorem reboxed_zones (s before : State) (z : Zone) : (s.reboxed before).monitor.zones.get z
    = (s.monitor.zones.get z).rezone (before.zoneRange z) (s.zoneRange z) := by
  have hzones : (s.reboxed before).monitor.zones = (s.rezoned before).monitor.zones := by
    unfold State.reboxed
    split <;> rfl
  rw [hzones]
  exact PerZone.get_mapWith ..

theorem reboxed_kept {before : State} {x : Box} (h : x = .a ∨ before.laneBExists = s.laneBExists) :
    sameBox s (s.reboxed before) x := by
  unfold State.reboxed
  by_cases hlane : before.laneBExists = s.laneBExists
  · rw [if_pos hlane]
    exact ⟨rfl, rfl, rfl⟩
  · obtain rfl := h.resolve_right hlane
    rw [if_neg hlane]
    exact ⟨rfl, rfl, rfl⟩

theorem reboxed_afresh {before : State} (h : before.laneBExists ≠ s.laneBExists) :
    (s.reboxed before).roll .b = (s.roll .b).rebox s.laneBExists ∧ (s.reboxed before).soak .b = soakAfresh := by
  rw [State.reboxed, if_neg h]
  exact ⟨rfl, rfl⟩

/-- The settled channels of a write, before the path clear. -/
theorem frame_resettled (s before : State) : Frame [.zones, .rolls, .soak, .causes] s
  (s.reboxed before).settleDepths :=
  (frame_reboxed s before).seq (frame_settleDepths _) (by decide)

theorem reboxed_settings (s before : State) : (s.reboxed before).settings = s.settings :=
  (congrArg State.settings (frame_reboxed s before).whole).trans rfl

theorem reboxed_dip (s before : State) (x : Box) : (s.reboxed before).dip x = s.dip x :=
  congrArg (fun g : Settings => ({ s with settings := g } : State).dip x) (reboxed_settings s before)

/-- The path clear reads and writes no roll, soak channel or zone. -/
theorem pathClear_kept (u : State) : u.pathClear.boxes = u.boxes ∧ u.pathClear.monitor = u.monitor
    ∧ u.pathClear.settings = u.settings := by
  rw [State.pathClear_eq]
  exact ⟨rfl, rfl, rfl⟩

theorem afterGeometry_box (s before : State) (x : Box) :
    (s.afterGeometry before).roll x = (s.reboxed before).settleDepths.roll x
      ∧ (s.afterGeometry before).soak x = (s.reboxed before).settleDepths.soak x := by
  obtain ⟨hboxes, hmonitor, -⟩ := pathClear_kept (s.reboxed before).settleDepths
  exact ⟨congrArg (fun b : BoxUnit => b.rolls.get x) hboxes, congrArg (fun m : MonitorUnit => m.soak.get x) hmonitor⟩

theorem afterGeometry_kept {before : State} {x : Box} (h : x = .a ∨ before.laneBExists = s.laneBExists) :
    (s.afterGeometry before).roll x
        = { s.roll x with depth := depthOf (s.roll x).state (s.roll x).position (s.dip x) }
      ∧ (s.afterGeometry before).soak x
        = if depthOf (s.roll x).state (s.roll x).position (s.dip x) = (s.roll x).depth then s.soak x
          else { s.soak x with immersed := depthOf (s.roll x).state (s.roll x).position (s.dip x) != .out } := by
  obtain ⟨hroll, hsoak⟩ := afterGeometry_box s before x
  obtain ⟨hroll', hsoak'⟩ := settleDepths_box (s.reboxed before) x
  have hbox := reboxed_kept h
  rw [hbox.roll, reboxed_dip] at hroll'
  rw [hbox.roll, hbox.soak, reboxed_dip] at hsoak'
  exact ⟨hroll.trans hroll', hsoak.trans hsoak'⟩

theorem afterGeometry_afresh {before : State} (h : before.laneBExists ≠ s.laneBExists) :
    (s.afterGeometry before).roll .b = (s.roll .b).rebox s.laneBExists
      ∧ (s.afterGeometry before).soak .b = ⟨0, false, 0, true⟩ := by
  obtain ⟨hroll, hsoak⟩ := afterGeometry_box s before .b
  obtain ⟨hroll', hsoak'⟩ := settleDepths_box (s.reboxed before) .b
  obtain ⟨hrebox, hafresh⟩ := reboxed_afresh h
  rw [hrebox] at hroll' hsoak'
  rw [hafresh] at hsoak'
  exact ⟨hroll.trans hroll', hsoak.trans hsoak'⟩

theorem afterGeometry_zones (s before : State) (z : Zone) : (s.afterGeometry before).monitor.zones.get z
    = if (before.zoneRange z).isSome = true ∧ s.zoneRange z = before.zoneRange z then s.monitor.zones.get z
      else { s.monitor.zones.get z with accumulator := 0, crossed := false } := by
  obtain ⟨-, hmonitor, -⟩ := pathClear_kept (s.reboxed before).settleDepths
  have hzones : (s.afterGeometry before).monitor.zones = (s.reboxed before).monitor.zones :=
    (congrArg MonitorUnit.zones hmonitor).trans ((frame_settleDepths (s.reboxed before)).2 .zones (by decide))
  rw [hzones, reboxed_zones, ZoneChannel.rezone]
  simp only [eq_comm (a := before.zoneRange z)]

theorem afterGeometry_settings (s before : State) : (s.afterGeometry before).settings = s.settings :=
  (pathClear_kept _).2.2.trans ((congrArg State.settings (frame_resettled s before).whole).trans rfl)

theorem afterGeometry_whole (s before : State) : s.afterGeometry before = { s with
    path := {
      lanes := ⟨List.replicate s.geometry.depthA none, List.replicate s.geometry.depthB none⟩
      main := List.replicate s.geometry.depthMain none
      segments := (s.afterGeometry before).path.segments
      sequence := 0 }
    line := { s.line with origin := s.line.track, distance := 0, stretchRing := [] }
    addOn := { s.addOn with windows := ⟨[], []⟩ }
    boxes := { s.boxes with rolls := (s.afterGeometry before).boxes.rolls }
    monitor := { s.monitor with
      soak := (s.afterGeometry before).monitor.soak, zones := (s.afterGeometry before).monitor.zones } } := by
  have hsettled := (frame_resettled s before).whole
  rw [afterGeometry_eq]
  generalize (s.reboxed before).settleDepths = u at hsettled ⊢
  rw [State.pathClear_eq, hsettled]
  rfl

theorem afterGeometry_segment (s before : State) (hstop : s.line.lineState = .stopped) (x : Box) :
    (s.afterGeometry before).segment x = ⟨0, if (s.afterGeometry before).inUse x = true then
      causeIf (((s.afterGeometry before).roll x).depth == .out) .lift
        ||| causeIf (((s.afterGeometry before).roll x).depth == .unknown) .depthUnknown else 0⟩ := by
  have hsettled := (frame_resettled s before).whole
  have hroll := (afterGeometry_box s before x).1
  rw [hroll, afterGeometry_eq, inUse_of_settings (pathClear_kept (s.reboxed before).settleDepths).2.2]
  generalize (s.reboxed before).settleDepths = u at hsettled ⊢
  have hstopped : u.line.lineState = .stopped := (congrArg (fun t : State => t.line.lineState) hsettled).trans hstop
  rw [← State.standingCauses_stopped hstopped, State.pathClear_eq]
  cases x <;> rfl

theorem State.grant_reboxed (s before : State) (p : Port) :
    (s.grant p).reboxed (before.grant p) = (s.reboxed before).grant p := by
  unfold State.reboxed
  by_cases h : before.laneBExists = s.laneBExists
  · rw [if_pos h, if_pos (by exact h)]
    rfl
  · rw [if_neg h, if_neg (by exact h)]
    rfl

theorem State.grant_afterGeometry (s before : State) (p : Port) :
    (s.grant p).afterGeometry (before.grant p) = (s.afterGeometry before).grant p := by
  rw [afterGeometry_eq, State.grant_reboxed, State.grant_settleDepths, State.grant_pathClear]
  rfl

end geometry

/-! ### WRITE MACHINE (R150) -/

section writeMachine
variable {s : State} {h : Hdr} {w : MachineWrite}

/-- The state a write passes on, its group replaced and the effects of the group done. -/
def State.machineWritten (s : State) (w : MachineWrite) : State := w.effects s (s.withMachine w)

theorem State.grant_machineWritten (s : State) (p : Port) (w : MachineWrite) :
    (s.grant p).machineWritten w = (s.machineWritten w).grant p := by
  cases w with
  | geometry g => exact State.grant_afterGeometry (s.withMachine (.geometry g)) s p
  | measurement tr fe la lb st hy sp ag =>
    exact State.grant_afterMeasurement (s.withMachine (.measurement tr fe la lb st hy sp ag)) p
  | actuators tr ra li rm lf di je =>
    exact State.grant_afterActuators (s.withMachine (.actuators tr ra li rm lf di je)) p
  | beam a b => rfl
  | ports l => rfl
  | other g bytes => rfl

theorem machineWritten_settings (s : State) (w : MachineWrite) : (s.machineWritten w).settings
    = { s.settings with machine := w.apply s.settings.machine } := by
  cases w with
  | geometry g => exact afterGeometry_settings (s.withMachine (.geometry g)) s
  | measurement tr fe la lb st hy sp ag =>
    have hframe := frame_afterMeasurement (s.withMachine (.measurement tr fe la lb st hy sp ag))
    exact (congrArg State.settings hframe.whole).trans rfl
  | actuators tr ra li rm lf di je => exact afterActuators_settings (s.withMachine (.actuators tr ra li rm lf di je))
  | beam a b => rfl
  | ports l => rfl
  | other g bytes => rfl

theorem machineUnlisted_iff (w : MachineWrite) : w.unlisted = true ↔ ∃ g bytes, w = .other g bytes := by
  cases w <;> simp [MachineWrite.unlisted]

/-- A listed write of an idle store on a line that stands. -/
theorem writeMachineWork_idle (hw : w.unlisted = false) (hidle : s.nv.flight = none)
    (hstop : s.line.lineState = .stopped) : writeMachineWork w s =
    if w.isGeometry = true ∧ s.beams.current.isSome = true then .plain s .beamOpen
    else if w.needsRollsStill = true ∧ ((s.roll .a).state.inMotion = true ∨ (s.roll .b).state.inMotion = true) then
      .plain s .busy
    else if w.inRange = false then .plain s .range
    else if w.takesBoxB s = true then .plain s .noBoxB
    else .done (s.machineWritten w) .ok [] := by
  rw [writeMachineWork, if_neg (by simp [hw]), if_neg (by simp [State.storeBusy, hidle]), if_neg (by simp [hstop])]
  simp only [Bool.and_eq_true, Bool.or_eq_true, Bool.not_eq_true']
  rfl

end writeMachine

end Sys2Proof.Machine
end

section
/-! WRITE MACHINE and WRITE ROLES whole. -/

namespace Sys2Proof.Machine

section written
variable {s e : State} {w : MachineWrite}

/-- What an accepted write of the measurement group does besides the replaced group. -/
theorem machineWritten_measurement (hw : ∃ tr fe la lb st hy sp ag, w = .measurement tr fe la lb st hy sp ag)
    (he : s.machineWritten w = e) :
    e = { s with settings := e.settings, addOn := { s.addOn with reports := e.addOn.reports }, ports := e.ports }
    ∧ s.eventsOnly e
    ∧ (∀ p i, (e.port p).events.getLsbD i = true ↔ (s.port p).events.getLsbD i = true
        ∨ (i = 11 ∧ ∃ x, s.laneExists x = true ∧ (s.report x).state = .fresh
          ∧ (s.report x).age.any (fun a => decide (e.measurement.ageLimit * 1000000 ≤ a)) = true))
    ∧ ∀ x, e.report x = if (s.report x).state = .fresh
          ∧ (s.report x).age.any (fun a => decide (e.measurement.ageLimit * 1000000 ≤ a)) = true then
        { s.report x with state := .stale, age := none } else s.report x := by
  have hsettings : e.settings = (s.withMachine w).settings := he ▸ machineWritten_settings s w
  have hlimit : e.measurement = (s.withMachine w).measurement :=
    congrArg (fun g : Settings => g.machine.measurement) hsettings
  rw [hlimit, hsettings]
  obtain ⟨tr, fe, la, lb, st, hy, sp, ag, rfl⟩ := hw
  replace he : (s.withMachine (.measurement tr fe la lb st hy sp ag)).afterMeasurement = e := he
  have hframe : Frame _ _ e := he ▸ frame_afterMeasurement (s.withMachine (.measurement tr fe la lb st hy sp ag))
  refine ⟨hframe.whole, hframe.eventsOnly (by decide), ?_, ?_⟩
  · exact he ▸ afterMeasurement_events (s.withMachine _)
  · exact he ▸ afterMeasurement_report (s.withMachine _)

/-- What an accepted write of the actuators group does besides the replaced group. -/
theorem machineWritten_actuators (hw : ∃ tr ra li rm lf di je, w = .actuators tr ra li rm lf di je)
    (he : s.machineWritten w = e) :
    e = { s with
      settings := e.settings
      boxes := { s.boxes with pressure := e.boxes.pressure, rolls := e.boxes.rolls }
      monitor := { s.monitor with soak := e.monitor.soak }
      path := { s.path with segments := e.path.segments }
      ports := e.ports }
    ∧ s.eventsOnly e
    ∧ (∀ p i, (e.port p).events.getLsbD i = true ↔ (s.port p).events.getLsbD i = true
        ∨ (i = 8 ∧ ∃ x, (s.roll x).state.referenced = true ∧ e.actuators.travel < (s.roll x).position))
    ∧ ∀ x, e.boxes.pressure.get x = ⟨min (s.boxes.pressure.get x).target e.actuators.pressureLimit,
          min (s.boxes.pressure.get x).commanded e.actuators.pressureLimit⟩
      ∧ ((s.roll x).state.referenced = true → e.actuators.travel < (s.roll x).position →
          e.roll x = { s.roll x with state := .unrefIdle, depth := .unknown, stepPhase := 0 } ∧ s.depthFollows e x)
      ∧ (¬((s.roll x).state.referenced = true ∧ e.actuators.travel < (s.roll x).position) →
          e.roll x = s.roll x ∧ e.soak x = s.soak x ∧ e.segment x = s.segment x) := by
  have hsettings : e.settings = (s.withMachine w).settings := he ▸ machineWritten_settings s w
  have hlimit : e.actuators = (s.withMachine w).actuators :=
    congrArg (fun g : Settings => g.machine.actuators) hsettings
  rw [hlimit, hsettings]
  obtain ⟨tr, ra, li, rm, lf, di, je, rfl⟩ := hw
  have hbox (x : Box) : sameBox s (s.withMachine (.actuators tr ra li rm lf di je)) x := ⟨rfl, rfl, rfl⟩
  have hframe := frame_travelChecked (s.withMachine (.actuators tr ra li rm lf di je))
  obtain ⟨hpressure, -⟩ := hframe.2 .pressure (by decide)
  replace he : (s.withMachine (.actuators tr ra li rm lf di je)).afterActuators = e := he
  subst he
  refine ⟨?_, hframe.eventsOnly (by decide), afterActuators_events (s.withMachine _), fun x => ⟨?_, ?_, ?_⟩⟩
  · rw [hpressure]
    exact hframe.whole
  · exact afterActuators_pressure (s.withMachine _) x
  · intro hreferenced hbeyond
    obtain ⟨hroll, hfollows⟩ := afterActuators_overrun (s := s.withMachine _) ⟨hreferenced, hbeyond⟩
    exact ⟨hroll, depthFollows_left (hbox x) hfollows⟩
  · intro hwithin
    have hkept := (hbox x).trans (afterActuators_within (s := s.withMachine _) hwithin)
    exact ⟨hkept.roll, hkept.soak, hkept.segment⟩

/-- What an accepted write of the geometry group does besides the replaced group. -/
theorem machineWritten_geometry (hw : w.isGeometry = true) (hstop : s.line.lineState = .stopped)
    (he : s.machineWritten w = e) :
    e = { s with
      settings := e.settings
      path := {
        lanes := ⟨List.replicate e.geometry.depthA none, List.replicate e.geometry.depthB none⟩
        main := List.replicate e.geometry.depthMain none
        segments := e.path.segments
        sequence := 0 }
      line := { s.line with origin := s.line.track, distance := 0, stretchRing := [] }
      addOn := { s.addOn with windows := ⟨[], []⟩ }
      boxes := { s.boxes with rolls := e.boxes.rolls }
      monitor := { s.monitor with soak := e.monitor.soak, zones := e.monitor.zones } }
    ∧ (∀ x, e.segment x = ⟨0, if e.inUse x = true then
        causeIf ((e.roll x).depth == .out) .lift ||| causeIf ((e.roll x).depth == .unknown) .depthUnknown else 0⟩)
    ∧ (∀ x, x = .a ∨ s.laneBExists = e.laneBExists →
        let d := depthOf (s.roll x).state (s.roll x).position (s.dip x)
        e.roll x = { s.roll x with depth := d }
        ∧ e.soak x = if d = (s.roll x).depth then s.soak x else { s.soak x with immersed := d != .out })
    ∧ (∀ z, e.monitor.zones.get z =
        if (s.zoneRange z).isSome = true ∧ e.zoneRange z = s.zoneRange z then s.monitor.zones.get z
        else { s.monitor.zones.get z with accumulator := 0, crossed := false })
    ∧ (s.laneBExists = false → e.laneBExists = true → e.roll .b = ⟨.unrefIdle, 0, .unknown, none, 0⟩)
    ∧ (s.laneBExists = true → e.laneBExists = false →
        e.roll .b = ⟨.unrefIdle, (s.roll .b).position, .unknown, none, 0⟩)
    ∧ (s.laneBExists ≠ e.laneBExists → e.soak .b = ⟨0, false, 0, true⟩) := by
  have hsettings : e.settings = (s.withMachine w).settings := he ▸ machineWritten_settings s w
  have hlane : e.laneBExists = (s.withMachine w).laneBExists := laneExists_of_settings hsettings .b
  have hzone (z : Zone) : e.zoneRange z = (s.withMachine w).zoneRange z :=
    congrArg (fun g : Settings => ({ s with settings := g } : State).zoneRange z) hsettings
  have hgeometry : e.geometry = (s.withMachine w).geometry :=
    congrArg (fun g : Settings => g.machine.geometry) hsettings
  obtain ⟨g, rfl⟩ : ∃ g, w = .geometry g := by cases w <;> simp_all [MachineWrite.isGeometry]
  replace he : (s.withMachine (.geometry g)).afterGeometry s = e := he
  have hwhole := afterGeometry_whole (s.withMachine (.geometry g)) s
  have hsegment := afterGeometry_segment (s.withMachine (.geometry g)) s hstop
  have hkept (x : Box) := afterGeometry_kept (s := s.withMachine (.geometry g)) (before := s) (x := x)
  have hafresh := afterGeometry_afresh (s := s.withMachine (.geometry g)) (before := s)
  have hzones := afterGeometry_zones (s.withMachine (.geometry g)) s
  rw [he] at hwhole hafresh
  simp only [he] at hsegment hkept hzones
  rw [hgeometry, hlane, hsettings]
  simp only [hzone]
  refine ⟨hwhole, hsegment, hkept, hzones, fun habsent hpresent => ?_, fun hpresent habsent => ?_,
    fun hchange => (hafresh hchange).2⟩
  · rw [(hafresh (by rw [habsent, hpresent]; decide)).1, hpresent]
    rfl
  · rw [(hafresh (by rw [habsent, hpresent]; decide)).1, habsent]
    rfl

end written

/-- Settles O52: the checks of the write one by one, each group's effects from its own lemma, and the write of the
roles. -/
theorem writeMachineAndRolesReplaceOneGroup : Obligations.WriteMachineAndRolesReplaceOneGroup := by
  refine ⟨fun r => ⟨permitted_writeMachine r, permitted_writeRoles r⟩, fun h w s ha => ?_,
    fun h r0 r1 r2 r3 s ha => writeRoles_replaces ha⟩
  intro outcome rollMoves
  have refused {status : Status} (hwork : writeMachineWork w (s.grant h.port) = .plain (s.grant h.port) status) :
      outcome = .next (s.replied h status []) := run_plain ha hwork
  refine ⟨fun hother => refused (if_pos ((machineUnlisted_iff w).mpr hother)), fun hother => ?_⟩
  have hunlisted : ¬w.unlisted = true := fun hw =>
    have ⟨g, bytes, heq⟩ := (machineUnlisted_iff w).mp hw
    hother g bytes heq
  refine ⟨fun hbusy => refused ?busy, fun hidle hmoving => refused ?moving, fun hidle hstop => ?_⟩
  case busy => rw [writeMachineWork, if_neg hunlisted]; exact if_pos hbusy
  case moving =>
    rw [writeMachineWork, if_neg hunlisted, if_neg (by simp [State.storeBusy, hidle])]
    exact if_pos hmoving
  have hwork := writeMachineWork_idle (s := s.grant h.port) (by simpa using hunlisted) hidle hstop
  refine ⟨fun hgeometry hopen => refused (hwork.trans (if_pos ⟨hgeometry, hopen⟩)), fun hclosed => ?_⟩
  rw [if_neg fun hc => by simp [hclosed hc.1] at hc] at hwork
  refine ⟨fun hneeds hmove => refused (hwork.trans (if_pos ⟨hneeds, hmove⟩)), fun hstill => ?_⟩
  rw [if_neg fun hc => hstill hc.1 hc.2] at hwork
  refine ⟨fun hrange => refused (hwork.trans (if_pos hrange)), fun hrange htakes => ?_, fun hrange hkeeps => ?_⟩
  · exact refused (hwork.trans ((if_neg (by simp [hrange])).trans (if_pos (by cases w <;> exact htakes))))
  · have hdone : outcome = .next ((s.machineWritten w).replied h .ok []) := by
      refine run_done ha ((hwork.trans ((if_neg (by simp [hrange])).trans (if_neg ?_))).trans ?_)
      · cases w <;> exact Bool.eq_false_iff.mp hkeeps
      · rw [State.grant_machineWritten]
    refine ⟨s.machineWritten w, hdone, machineWritten_settings s w, ?_, fun hw => machineWritten_measurement hw rfl,
      fun hw => machineWritten_actuators hw rfl, fun hw => machineWritten_geometry hw hstop rfl⟩
    rintro (⟨a, b, rfl⟩ | ⟨l, rfl⟩) <;> rfl

end Sys2Proof.Machine
end

section
/-! A segment closed and opened at a boundary: the record, the window, the soak channel and the new open segment. -/

namespace Sys2Proof.Machine

/-! ### What the closing of a box's segment reads -/

section reads
variable {s t u : State} {x : Box}

/-- Two states agree in all that the closing and opening of a box's segment reads, the number and the stretch apart.
  -/
structure sameClosing (s t : State) (x : Box) : Prop where
  settings : t.settings = s.settings
  speed : t.line.speed = s.line.speed
  lineState : t.line.lineState = s.line.lineState
  boxes : t.boxes = s.boxes
  report : t.report x = s.report x
  segment : t.segment x = s.segment x
  window : t.window x = s.window x
  soak : t.soak x = s.soak x

theorem sameClosing.trans (h : sameClosing s t x) (h' : sameClosing t u x) : sameClosing s u x where
  settings := h'.settings.trans h.settings
  speed := h'.speed.trans h.speed
  lineState := h'.lineState.trans h.lineState
  boxes := h'.boxes.trans h.boxes
  report := h'.report.trans h.report
  segment := h'.segment.trans h.segment
  window := h'.window.trans h.window
  soak := h'.soak.trans h.soak

/-- The shift of the lanes touches nothing a closing reads. -/
theorem sameClosing.of_slots (h : Frame [.slots] s t) (x : Box) : sameClosing s t x where
  settings := (congrArg State.settings h.whole).trans rfl
  speed := (congrArg (fun u : State => u.line.speed) h.whole).trans rfl
  lineState := (congrArg (fun u : State => u.line.lineState) h.whole).trans rfl
  boxes := (congrArg State.boxes h.whole).trans rfl
  report := (congrArg (fun u : State => u.report x) h.whole).trans rfl
  segment := (congrArg (fun u : State => u.segment x) h.whole).trans rfl
  window := (congrArg (fun u : State => u.window x) h.whole).trans rfl
  soak := (congrArg (fun u : State => u.soak x) h.whole).trans rfl

/-- The record `r` and the state `u` are what the closing of a box's segment in `s` and the opening of the next
  leave. -/
def State.closesAs (s u : State) (x : Box) (number : Nat) (stretch : Option Int) (r : LaneRecord) : Prop :=
  r.sequence = number ∧ r.style = s.settings.active ∧ r.ends = s.style.yarn.ends.get x
  ∧ r.speed = s.line.speed ∧ r.pressure = (s.boxes.pressure.get x).commanded ∧ r.dwell = 0
  ∧ r.roll = (if (s.roll x).state.referenced then some (s.roll x).position else none)
  ∧ r.liquor = (s.segment x).pulses * s.measurement.liquorWeight.get x
  ∧ u.window x = (s.window x ++ [r.liquor]).drop ((s.window x).length + 1 - s.style.yarn.window)
  ∧ r.concentration = (if (s.report x).state = .unknown then none else (s.report x).concentration)
  ∧ r.density = (if (s.report x).state = .unknown then none else (s.report x).density)
  ∧ r.addOn = u.laneAddOn x
  ∧ r.stretch = stretch
  ∧ r.causes = (s.segment x).causes ||| s.stretchCauses stretch ||| u.addOnCauses x
  ∧ u.soak x = { s.soak x with pending := (s.soak x).pending - 1 }
  ∧ u.segment x = ⟨0, causeIf (decide (0 < (s.soak x).pending)) .soak ||| (if s.inUse x = true then
      causeIf (s.line.lineState == .crawl) .crawl ||| causeIf ((s.roll x).depth == .out) .lift
        ||| causeIf ((s.roll x).depth == .unknown) .depthUnknown else 0)⟩

theorem style_of_settings (h : t.settings = s.settings) : t.style = s.style :=
  congrArg (fun g : Settings => ({ s with settings := g } : State).style) h

theorem closesAs_before {number : Nat} {stretch : Option Int} {r : LaneRecord} (hsame : sameClosing s t x)
    (h : t.closesAs u x number stretch r) : s.closesAs u x number stretch r := by
  have hstyle : t.style = s.style := style_of_settings hsame.settings
  have hmeasurement : t.measurement = s.measurement := congrArg (fun g : Settings => g.machine.measurement)
    hsame.settings
  have hroll : t.roll x = s.roll x := congrArg (fun b : BoxUnit => b.rolls.get x) hsame.boxes
  have hstretch : t.stretchCauses stretch = s.stretchCauses stretch := by
    unfold State.stretchCauses
    rw [hstyle]
  rw [State.closesAs, hstretch, hstyle, hmeasurement, hroll, hsame.settings, hsame.speed, hsame.lineState,
    hsame.boxes,
    hsame.report, hsame.segment, hsame.window, hsame.soak, inUse_of_settings hsame.settings] at h
  exact h

/-- The add-on of a close and its causes read the settings, the report and the window. -/
theorem addOn_congr (hsettings : t.settings = s.settings) (hreport : t.report x = s.report x)
    (hwindow : t.window x = s.window x) : t.laneAddOn x = s.laneAddOn x ∧ t.addOnCauses x = s.addOnCauses x := by
  unfold State.laneAddOn State.addOnCauses
  rw [style_of_settings hsettings, hreport, hwindow]
  exact ⟨rfl, rfl⟩

theorem closesAs_after {number : Nat} {stretch : Option Int} {r : LaneRecord} (hsame : sameClosing t u x)
    (h : s.closesAs t x number stretch r) : s.closesAs u x number stretch r := by
  obtain ⟨haddOn, hcauses⟩ := addOn_congr hsame.settings hsame.report hsame.window
  rw [State.closesAs, ← hsame.segment, ← hsame.window, ← hsame.soak, ← haddOn, ← hcauses] at h
  exact h

end reads

/-! ### One segment closed and the next opened (R27, R28, R53) -/

section close
variable {s : State} {x : Box}

/-- The open segment of a box after its boundary: SOAK where soak is pending, and what stands for a box in use. -/
def State.openedAfter (s : State) (x : Box) : OpenSegment :=
  ⟨0, causeIf (decide (0 < (s.soak x).pending)) .soak ||| (if s.inUse x = true then s.standingCauses x else 0)⟩

theorem openAtBoundary_eq (h : s.laneExists x = true) : s.openAtBoundary x =
    (s.setSoak x { s.soak x with pending := (s.soak x).pending - 1 }).setSegment x (s.openedAfter x) := by
  unfold State.openAtBoundary
  by_cases hp : 0 < (s.soak x).pending
  · rw [if_pos hp, State.openSegment_eq, if_pos (by simpa using h), State.openedAfter, decide_eq_true hp]
    rfl
  · have hkept : s.setSoak x { s.soak x with pending := (s.soak x).pending - 1 } = s := by
      have hzero : (s.soak x).pending - 1 = (s.soak x).pending := by omega
      rw [hzero]
      exact congrArg (fun c => ({ s with monitor := { s.monitor with soak := c } } : State)) (PerBox.set_get _ x)
    rw [if_neg hp, hkept, State.openSegment_eq, if_pos h, State.openedAfter, decide_eq_false hp]
    rfl

/-- A closing writes the window, the soak channel and the open segment of its own box. -/
theorem closeSegment_state (h : s.laneExists x = true) (stretch : Option Int) : (s.closeSegment x stretch).state =
    ((s.enterLiquor x (s.closeLiquor x)).setSoak x { s.soak x with pending := (s.soak x).pending - 1 }).setSegment x
      (s.openedAfter x) := openAtBoundary_eq (s := s.enterLiquor x (s.closeLiquor x)) h

theorem closeSegment_other {y : Box} (h : s.laneExists x = true) (hne : y ≠ x) (stretch : Option Int) :
    sameClosing s (s.closeSegment x stretch).state y := by
  rw [closeSegment_state h]
  exact ⟨rfl, rfl, rfl, rfl, rfl, State.segment_setSegment_ne _ _ hne, State.window_setWindow_ne _ _ hne,
    State.soak_setSoak_ne _ _ hne⟩

theorem closeSegment_closesAs (h : s.laneExists x = true) (stretch : Option Int) :
    s.closesAs (s.closeSegment x stretch).state x s.path.sequence stretch (s.closeSegment x stretch).record := by
  have hwindow : (s.closeSegment x stretch).state.window x = (s.enterLiquor x (s.closeLiquor x)).window x := by
    rw [closeSegment_state h, State.setSegment_window, State.setSoak_window]
  have hsoak : (s.closeSegment x stretch).state.soak x = { s.soak x with pending := (s.soak x).pending - 1 } := by
    rw [closeSegment_state h, State.setSegment_soak, State.soak_setSoak_same]
  have hsegment : (s.closeSegment x stretch).state.segment x = s.openedAfter x := by
    rw [closeSegment_state h, State.segment_setSegment_same]
  have hentered : (s.enterLiquor x (s.closeLiquor x)).window x
      = pushRing s.style.yarn.window (s.window x) (s.closeLiquor x) := State.window_setWindow_same ..
  obtain ⟨haddOn, hcauses⟩ : (s.closeSegment x stretch).state.laneAddOn x =
    (s.enterLiquor x (s.closeLiquor x)).laneAddOn x
      ∧ (s.closeSegment x stretch).state.addOnCauses x = (s.enterLiquor x (s.closeLiquor x)).addOnCauses x := by
    refine addOn_congr ?_ ?_ hwindow <;> rw [closeSegment_state h] <;> rfl
  rw [State.closesAs, hwindow, hentered, hsoak, hsegment, haddOn, hcauses]
  exact ⟨rfl, rfl, rfl, rfl, rfl, rfl, rfl, rfl, rfl, rfl, rfl, rfl, rfl, rfl, rfl, rfl⟩

end close

end Sys2Proof.Machine
end

section
/-! The boundary event: its number, the closings and the shifts below the sequence wrap, the arrivals, the wrap. -/

namespace Sys2Proof.Machine

/-! ### The number and the stretch (R11, R26) -/

section number
variable {s : State}

/-- The next sequence number taken below the wrap. -/
def State.numbered (s : State) : State := { s with path := { s.path with sequence := s.path.sequence + 1 } }

theorem takeSequence_below (h : s.path.sequence < 4294967295) : s.takeSequence = s.numbered := by
  unfold State.takeSequence
  rw [if_pos (by exact h)]
  rfl

theorem takeSequence_wrap (h : s.path.sequence = 4294967295) : s.takeSequence = s.pathClear.takeSequence := by
  have hcleared : s.pathClear.path.sequence < 4294967295 := by rw [pathClear_sequence]; decide
  rw [takeSequence_below hcleared]
  unfold State.takeSequence
  rw [if_neg (by rw [h]; exact Nat.lt_irrefl _)]
  rfl

/-- The boundary at the wrap is that of the cleared path. -/
theorem boundary_wrap (h : s.path.sequence = 4294967295) : s.boundary = s.pathClear.boundary := by
  have hclose : s.closeAll = s.pathClear.closeAll := by
    unfold State.closeAll
    rw [takeSequence_wrap h]
  unfold State.boundary
  rw [hclose]

/-- The state whose segments a boundary below the wrap closes: the number taken, the stretch asked. -/
def State.asked (s : State) : State := s.numbered.takeStretch

theorem asked_eq (s : State) : s.asked = { s with
    line := s.takeStretch.line, ports := s.takeStretch.ports, path := s.numbered.path } := by
  have hnumbered : s.asked = s.takeStretch.numbered := by
    have hpost (u : State) (c : Bool) : u.numbered.postIf c .inputFault = (u.postIf c .inputFault).numbered := by
      cases c <;> rfl
    exact hpost { s with line := { s.line with
      feedSilent := s.line.feedSilentAfter
      stretchRing := pushRing Config.stretchWindow s.line.stretchRing s.line.feed } } _
  rw [hnumbered]
  exact (congrArg State.numbered (frame_takeStretch s).whole).trans rfl

theorem sameClosing_asked (s : State) (x : Box) : sameClosing s s.asked x := by
  rw [asked_eq, takeStretch_line]
  exact ⟨rfl, rfl, rfl, rfl, rfl, rfl, rfl, rfl⟩

end number

/-! ### The segments closed (R27, R28) -/

section closed
variable {s : State} {x : Box}

/-- The record a boundary enters at the tail of a lane. -/
def State.entering (s : State) : Box → Option LaneRecord
  | .a => s.closeAll.1
  | .b => s.closeAll.2.1

theorem closeAll_withB (h : s.path.sequence < 4294967295) (hb : s.laneBExists = true) : s.closeAll =
    (some (s.asked.closeSegment .a s.line.stretch).record,
      some ((s.asked.closeSegment .a s.line.stretch).state.closeSegment .b s.line.stretch).record,
      ((s.asked.closeSegment .a s.line.stretch).state.closeSegment .b s.line.stretch).state) := by
  have hexists : s.asked.laneBExists = true :=
    (laneExists_of_settings (sameClosing_asked s .b).settings .b).trans hb
  unfold State.closeAll
  rw [takeSequence_below h]
  exact if_pos hexists

theorem closeAll_withoutB (h : s.path.sequence < 4294967295) (hb : s.laneBExists = false) : s.closeAll =
    (some (s.asked.closeSegment .a s.line.stretch).record, none,
      (s.asked.closeSegment .a s.line.stretch).state) := by
  have hexists : s.asked.laneBExists = false :=
    (laneExists_of_settings (sameClosing_asked s .b).settings .b).trans hb
  unfold State.closeAll
  rw [takeSequence_below h]
  exact if_neg (by rw [Bool.not_eq_true]; exact hexists)

theorem frame_closed (h : s.path.sequence < 4294967295) :
    Frame [.windows, .soak, .pulses, .causes] s.asked s.closeAll.2.2 := by
  cases hb : s.laneBExists with
  | true =>
    rw [closeAll_withB h hb]
    exact (frame_closeSegment _ .a s.line.stretch).trans (frame_closeSegment _ .b s.line.stretch)
  | false =>
    rw [closeAll_withoutB h hb]
    exact frame_closeSegment _ .a s.line.stretch

/-- Below the wrap each existing lane is closed, from the state before the boundary. -/
theorem closeAll_closesAs (h : s.path.sequence < 4294967295) (hx : s.laneExists x = true) : ∃ r,
    s.entering x = some r ∧ s.closesAs s.closeAll.2.2 x (s.path.sequence + 1) s.line.stretch r := by
  have hasked (y : Box) := sameClosing_asked s y
  have hnumber : s.asked.path.sequence = s.path.sequence + 1 := by rw [asked_eq]; rfl
  have hfirst := closeSegment_closesAs (s := s.asked) (x := .a) rfl s.line.stretch
  have hother := closeSegment_other (s := s.asked) (x := .a) (y := .b) rfl (by decide) s.line.stretch
  have hnumberA : (s.asked.closeSegment .a s.line.stretch).state.path.sequence = s.path.sequence + 1 :=
    ((frame_closeSegment _ .a _).2 .sequence (by decide)).trans hnumber
  rw [hnumber] at hfirst
  cases hb : s.laneBExists with
  | true =>
    have hexists : (s.asked.closeSegment .a s.line.stretch).state.laneExists .b = true :=
      (laneExists_of_settings (hother.settings.trans (hasked .b).settings) .b).trans hb
    have hsecond := closeSegment_closesAs hexists s.line.stretch
    have hkept := closeSegment_other (y := .a) hexists (by decide) s.line.stretch
    rw [hnumberA] at hsecond
    rw [closeAll_withB h hb]
    cases x with
    | a => exact ⟨_, congrArg Prod.fst (closeAll_withB h hb),
        closesAs_before (hasked .a) (closesAs_after hkept hfirst)⟩
    | b => exact ⟨_, congrArg (fun c => c.2.1) (closeAll_withB h hb),
        closesAs_before ((hasked .b).trans hother) hsecond⟩
  | false =>
    obtain rfl : x = .a := by
      cases x with
      | a => rfl
      | b => cases hb.symm.trans hx
    rw [closeAll_withoutB h hb]
    exact ⟨_, congrArg Prod.fst (closeAll_withoutB h hb), closesAs_before (hasked .a) hfirst⟩

/-- Without lane B nothing a closing reads of box B is written. -/
theorem closeAll_absent (h : s.path.sequence < 4294967295) (hb : s.laneBExists = false) :
    sameClosing s s.closeAll.2.2 .b := by
  rw [closeAll_withoutB h hb]
  exact (sameClosing_asked s .b).trans (closeSegment_other rfl (by decide) s.line.stretch)

end closed

/-! ### The lanes shifted and merged (R29 to R32) -/

section shifted
variable {s : State}

theorem shiftAll_lane (s : State) (recA recB : Option LaneRecord) :
    (s.shiftAll recA recB).lane .a = shiftLane (s.lane .a) recA
    ∧ (s.shiftAll recA recB).lane .b = if s.laneBExists = true then shiftLane (s.lane .b) recB else s.lane .b := by
  unfold State.shiftAll
  dsimp only
  split <;> exact ⟨rfl, rfl⟩

theorem shiftAll_main (s : State) (recA recB : Option LaneRecord) : (s.shiftAll recA recB).path.main =
    (s.shiftAll recA recB).merge (headOf (s.lane .a)) (if s.laneBExists then headOf (s.lane .b) else none)
      :: s.path.main.dropLast := by
  unfold State.shiftAll
  dsimp only
  split <;> rfl

/-- The state behind the shifts of a boundary, before the three arrivals. -/
def State.shifted (s : State) : State := s.closeAll.2.2.shiftAll s.closeAll.1 s.closeAll.2.1

theorem boundary_eq (s : State) : s.boundary = s.shifted.arriveAll (headOf s.closeAll.2.2.path.main) := rfl

theorem closed_path (h : s.path.sequence < 4294967295) :
    s.closeAll.2.2.path.lanes = s.path.lanes ∧ s.closeAll.2.2.path.main = s.path.main
      ∧ s.closeAll.2.2.settings = s.settings := by
  have hwhole := (frame_closed h).whole
  rw [asked_eq] at hwhole
  generalize s.closeAll.2.2 = c at hwhole ⊢
  rw [hwhole]
  exact ⟨rfl, rfl, rfl⟩

theorem shifted_whole (h : s.path.sequence < 4294967295) : s.shifted = { s with
    line := s.takeStretch.line
    ports := s.takeStretch.ports
    path := { s.shifted.path with sequence := s.path.sequence + 1 }
    addOn := { s.addOn with windows := s.shifted.addOn.windows }
    monitor := { s.monitor with soak := s.shifted.monitor.soak } } := by
  have hframe : Frame [.windows, .soak, .pulses, .causes, .slots] s.asked s.shifted :=
    (frame_closed h).seq (frame_shiftAll _ _ _) (by decide)
  have hwhole := hframe.whole
  rw [asked_eq] at hwhole
  exact hwhole

theorem shifted_lane {x : Box} (h : s.path.sequence < 4294967295) (hx : s.laneExists x = true) :
    ∃ r, s.shifted.lane x = some r :: (s.lane x).dropLast
      ∧ s.closesAs s.shifted x (s.path.sequence + 1) s.line.stretch r := by
  obtain ⟨r, hentering, hcloses⟩ := closeAll_closesAs h hx
  obtain ⟨hlanes, -, hsettings⟩ := closed_path h
  obtain ⟨hlaneA, hlaneB⟩ := shiftAll_lane s.closeAll.2.2 s.closeAll.1 s.closeAll.2.1
  have hbefore (y : Box) : s.closeAll.2.2.lane y = s.lane y := congrArg (fun l : PerBox _ => l.get y) hlanes
  refine ⟨r, ?_, closesAs_after (.of_slots (frame_shiftAll _ _ _) x) hcloses⟩
  cases x with
  | a =>
    rw [hbefore] at hlaneA
    exact hlaneA.trans (congrArg (· :: (s.lane .a).dropLast) hentering)
  | b =>
    have hexists : s.closeAll.2.2.laneBExists = true := (laneExists_of_settings hsettings .b).trans hx
    rw [if_pos hexists, hbefore] at hlaneB
    exact hlaneB.trans (congrArg (· :: (s.lane .b).dropLast) hentering)

theorem shifted_absent (h : s.path.sequence < 4294967295) (hb : s.laneBExists = false) :
    s.shifted.lane .b = s.lane .b ∧ s.shifted.window .b = s.window .b ∧ s.shifted.soak .b = s.soak .b
      ∧ s.shifted.segment .b = s.segment .b := by
  obtain ⟨hlanes, -, hsettings⟩ := closed_path h
  have hsame := (closeAll_absent h hb).trans (.of_slots (frame_shiftAll _ s.closeAll.1 s.closeAll.2.1) .b)
  have hlane := (shiftAll_lane s.closeAll.2.2 s.closeAll.1 s.closeAll.2.1).2
  have hexists : s.closeAll.2.2.laneBExists = false := (laneExists_of_settings hsettings .b).trans hb
  rw [hexists, if_neg (by decide)] at hlane
  exact ⟨hlane.trans (congrArg (fun l : PerBox _ => l.get .b) hlanes), hsame.window, hsame.soak, hsame.segment⟩

theorem shifted_main (h : s.path.sequence < 4294967295) : s.shifted.path.main =
    s.shifted.merge (headOf (s.lane .a)) (if s.laneBExists then headOf (s.lane .b) else none)
      :: s.path.main.dropLast := by
  obtain ⟨hlanes, hmain, hsettings⟩ := closed_path h
  have hlane (y : Box) : s.closeAll.2.2.lane y = s.lane y := congrArg (fun l : PerBox _ => l.get y) hlanes
  have hexists : s.closeAll.2.2.laneBExists = s.laneBExists := laneExists_of_settings hsettings .b
  have hshift := shiftAll_main s.closeAll.2.2 s.closeAll.1 s.closeAll.2.1
  rw [hlane, hlane, hmain, hexists] at hshift
  exact hshift

end shifted

/-! ### The three arrivals (R32 to R34) -/

section arrivals
variable {s : State}

/-- The gauge arrival replaces at most the record at the gauge. -/
theorem gaugeArrival_path (s : State) : s.gaugeArrival.path = { s.path with main := s.gaugeArrival.path.main }
    ∧ s.gaugeArrival.path.main.length = s.path.main.length
    ∧ ∀ i, i ≠ s.geometry.gauge → s.gaugeArrival.path.main[i]? = s.path.main[i]? := by
  unfold State.gaugeArrival
  split
  · exact ⟨rfl, List.length_set, fun i hi => List.getElem?_set_ne (Ne.symm hi)⟩
  · exact ⟨rfl, rfl, fun _ _ => rfl⟩

theorem arriveAll_eq (u : State) (delivered : Option MainRecord) : u.arriveAll delivered =
    (u.gaugeArrival.markerArrival (slotAt u.gaugeArrival.path.main u.geometry.marker)
      ((u.gaugeArrival.path.main[u.geometry.marker + 1]?).getD delivered)).deliver delivered := by
  have hgeometry : u.gaugeArrival.geometry = u.geometry :=
    congrArg MachineTable.geometry ((frame_gaugeArrival u).2 .machine (by decide))
  rw [State.arriveAll, State.replacedAtMarker, hgeometry]

/-- The arrivals write the main lane as the gauge arrival does, and no other slot, counter or channel. -/
theorem arriveAll_kept (u : State) (delivered : Option MainRecord) : (u.arriveAll delivered).line = u.line
    ∧ (u.arriveAll delivered).addOn = u.addOn ∧ (u.arriveAll delivered).monitor = u.monitor
    ∧ (u.arriveAll delivered).path = u.gaugeArrival.path := by
  have hwhole := (frame_arriveAll u delivered).whole
  have hafter : Frame [.jets, .beam, .events] u.gaugeArrival (u.arriveAll delivered) :=
    (frame_markerArrival _ _ _).seq (frame_deliver _ _) (by decide)
  exact ⟨(congrArg State.line hwhole).trans rfl, (congrArg State.addOn hwhole).trans rfl,
    (congrArg State.monitor hwhole).trans rfl, (congrArg State.path hafter.whole).trans rfl⟩

end arrivals

/-! ### The boundary whole -/

section boundary
variable {s : State}

/-- A boundary below the wrap: the shifted state and what the arrivals make of it. -/
theorem boundary_below (h : s.path.sequence < 4294967295) :
    s.boundary = s.shifted.arriveAll (headOf s.path.main)
    ∧ s.boundary.line = s.shifted.line ∧ s.boundary.addOn = s.shifted.addOn ∧ s.boundary.monitor = s.shifted.monitor
    ∧ s.boundary.path = { s.shifted.path with main := s.boundary.path.main }
    ∧ s.boundary.path.main.length = s.shifted.path.main.length
    ∧ ∀ i, i ≠ s.geometry.gauge → s.boundary.path.main[i]? = s.shifted.path.main[i]? := by
  have heq : s.boundary = s.shifted.arriveAll (headOf s.path.main) := by
    rw [boundary_eq, (closed_path h).2.1]
  have hgeometry : s.shifted.geometry = s.geometry := (congrArg State.geometry (shifted_whole h)).trans rfl
  obtain ⟨hline, haddOn, hmonitor, hpath⟩ := arriveAll_kept s.shifted (headOf s.path.main)
  obtain ⟨hlanes, hlength, hslots⟩ := gaugeArrival_path s.shifted
  rw [heq, hpath]
  rw [hgeometry] at hslots
  exact ⟨rfl, hline, haddOn, hmonitor, hlanes, hlength, hslots⟩

theorem boundary_shifts (h : s.path.sequence < 4294967295) :
    s.boundary.path.main.length = max 1 s.path.main.length
    ∧ ∀ i, i + 1 < s.path.main.length → i + 1 ≠ s.geometry.gauge →
        s.boundary.path.main[i + 1]? = s.path.main[i]? := by
  obtain ⟨-, -, -, -, -, hlength, hslots⟩ := boundary_below h
  rw [shifted_main h] at hlength hslots
  refine ⟨?_, fun i hi hgauge => ?_⟩
  · rw [hlength, List.length_cons, List.length_dropLast]
    omega
  · rw [hslots _ hgauge, List.getElem?_cons_succ, List.getElem?_dropLast, if_pos (by omega)]

theorem boundary_lane (h : s.path.sequence < 4294967295) (x : Box) : s.boundary.lane x = s.shifted.lane x := by
  obtain ⟨-, -, -, -, hpath, -⟩ := boundary_below h
  exact (congrArg (fun p : PathUnit => p.lanes.get x) hpath).trans rfl

/-- A path clear leaves no pulse and no stretch. -/
theorem pathClear_unfed (s : State) (x : Box) : (s.pathClear.segment x).pulses = 0
    ∧ s.pathClear.line.stretch = none := by
  rw [State.pathClear_eq]
  cases x <;> exact ⟨rfl, rfl⟩

/-- The boundary of a cleared path: number 1, and records without liquor and stretch on lanes otherwise untracked. -/
theorem boundary_cleared (s : State) : s.pathClear.boundary.path.sequence = 1
    ∧ s.pathClear.boundary.line.origin = s.line.track
    ∧ ∀ x, s.laneExists x = true → ∃ r, s.pathClear.boundary.lane x = some r :: (s.pathClear.lane x).dropLast
        ∧ r.sequence = 1 ∧ r.liquor = 0 ∧ r.stretch = none := by
  have hbelow : s.pathClear.path.sequence < 4294967295 := by rw [pathClear_sequence]; decide
  obtain ⟨-, hline, -, -, hpath, -⟩ := boundary_below hbelow
  have hwhole := shifted_whole hbelow
  refine ⟨?_, ?_, fun x hx => ?_⟩
  · rw [hpath, hwhole, pathClear_sequence]
  · rw [hline, hwhole, takeStretch_line, State.pathClear_line]
  · have hexists := (laneExists_of_settings (pathClear_kept s).2.2 x).trans hx
    obtain ⟨r, hlane, hsequence, -, -, -, -, -, -, hliquor, -, -, -, -, hstretch, -⟩ := shifted_lane hbelow hexists
    obtain ⟨hpulses, hunfed⟩ := pathClear_unfed s x
    refine ⟨r, (boundary_lane hbelow x).trans hlane, ?_, ?_, hstretch.trans hunfed⟩
    · rw [hsequence, pathClear_sequence]
    · rw [hliquor, hpulses, Nat.zero_mul]

end boundary

/-- Settles O26: below the wrap by the shifted state, its lanes and the arrivals; at the wrap by the cleared path. -/
theorem boundaryClosesAndShifts : Obligations.BoundaryClosesAndShifts := by
  intro s t
  refine ⟨fun hbelow => ?_, fun hwrap => ?_⟩
  · obtain ⟨harrive, hline, haddOn, hmonitor, hpath, -⟩ := boundary_below hbelow
    obtain ⟨hlength, hslots⟩ := boundary_shifts hbelow
    have hgeometry : s.shifted.geometry = s.geometry := (congrArg State.geometry (shifted_whole hbelow)).trans rfl
    refine ⟨s.shifted, shifted_whole hbelow, fun x hx => shifted_lane hbelow hx, shifted_absent hbelow,
      shifted_main hbelow, ?_, hline, haddOn, hmonitor, hpath, hlength, hslots⟩
    rw [← hgeometry]
    exact harrive.trans (arriveAll_eq _ _)
  · obtain ⟨hsequence, horigin, hlanes⟩ := boundary_cleared s
    have hcleared (x : Box) : s.pathClear.lane x = List.replicate (match x with
        | .a => s.geometry.depthA
        | .b => s.geometry.depthB) none := by
      rw [State.pathClear_eq]
      cases x <;> rfl
    refine ⟨boundary_wrap hwrap, ?_⟩
    rw [show t = s.pathClear.boundary from boundary_wrap hwrap]
    refine ⟨hsequence, horigin, fun x hx => ?_⟩
    obtain ⟨r, hlane, hrecord⟩ := hlanes x hx
    exact ⟨r, hlane.trans (congrArg (fun l => some r :: l.dropLast) (hcleared x)), hrecord⟩

end Sys2Proof.Machine
end
